-- ==== Sys2Proof/Word.lean ====
section
/-! DEFINITION. The widths of the block's values (00_scope section 4, R4's parameter table). -/

namespace Sys2Proof

/-- A configuration register, and the registers PERIOD, TIMEOUT and `idle` (W_SR, W_N, W_CNT = 32). -/
abbrev Reg := BitVec 32

/-- A sample index (W_IDX = 64, 10_state R20). -/
abbrev Index := BitVec 64

/-- A host command word (30_encoding R46). -/
abbrev CommandWord := BitVec 40

end Sys2Proof
end

