-- ==== Sys2Proof/Config.lean ====
section
/-! DEFINITION. The implementation parameters of 00_scope section 4, and the model's free values.

A free value is an `opaque` constant: nothing can be proved of it, so a claim holds whatever it is. -/

namespace Sys2Proof.Config

/-- FRAME_BITS: bits in a valid frame. -/
def frameBits : Nat := 16

/-- CMD_LIMIT: payloads below it are commands (45_classifier R105). -/
def cmdLimit : Nat := 48

/-- TIMEOUT_MULT: the inactivity threshold in bit periods. -/
def timeoutMult : Nat := 3

/-- The denominator of R5: the period literals M are in units of 1e-8 s. -/
def periodUnit : Nat := 100000000

/-- The saturation value of the bit counter (W_BC = 5, 10_state R26). -/
def countMax : BitVec 5 := 31#5

/-- The number of bits buffered when the checksum nibble's first bit, bits[12], is appended (43 R91). -/
def nibbleAt : BitVec 5 := 12#5

/-- FREE VALUE (DESIGN CHOICE, log entry 8). What BITVAL answers when `end` or `nextStart` lies before
`start`: R77 computes its two differences on unsigned integers and states no result there. -/
opaque bitvalUnstated (start stop next : Index) : Bool

/-- FREE VALUE (DESIGN CHOICE, log entry 9). The synthesized nextStart of BX_FINAL when `pc_start + N`
does not fit W_IDX bits: R83 says that this cannot happen and states no value. -/
opaque nextUnstated (start : Index) (n : Reg) : Index

/-- FREE VALUE (DESIGN CHOICE, log entry 10). The inactivity count that follows 2^32 - 1: R21 says that
`idle` never exceeds TIMEOUT and states no value. -/
opaque idleUnstated (idle : Reg) : Reg

end Sys2Proof.Config
end

