-- ==== Sys2Proof/Syntax.lean ====
section
/-! DEFINITION. The instructions: one constructor per row of spec/opcode_table.json, in its order.

HOST rows are the block's commands. The rows of the other formats are the operations a SAMPLE step
performs (30_encoding, introduction); log entry 6 says how the model runs them. -/

namespace Sys2Proof

/-- The source's DecodedBit `{start, end, nextStart, value}` (00_scope, glossary; 42 R78). -/
structure DecodedBit where
  start : Index
  /-- the source's `end` -/
  stop  : Index
  /-- the source's `nextStart` -/
  next  : Index
  value : Bool
deriving DecidableEq, Repr

/-- One row of the opcode table each. -/
inductive Instr where
  /-- CFGW (40 R60). -/
  | cfgw (addr : BitVec 4) (data : Reg)
  /-- CFGR (40 R61). -/
  | cfgr (addr : BitVec 4)
  /-- START (40 R62, R63, R64). -/
  | start
  /-- SAMPLE (40 R65); the level is DATA[0], true for logic high. -/
  | sample (level : Bool)
  /-- END (40 R66). -/
  | endStream
  /-- RESERVED, OP 0x0 (30 R52). -/
  | reservedZero (addr : BitVec 4) (data : Reg)
  /-- RESERVED, OP 0x6 and 0x7; `op` is OP[0]. -/
  | reservedSix (op : BitVec 1) (addr : BitVec 4) (data : Reg)
  /-- RESERVED, OP 0x8 to 0xF; `op` is OP[2:0]. -/
  | reservedHigh (op : BitVec 3) (addr : BitVec 4) (data : Reg)
  /-- REF_SAMPLE (41 R68), selector 0tes. -/
  | refSample (t e s : Bool)
  /-- WAIT_NONE (41 R69), selector 100s. -/
  | waitNone (s : Bool)
  /-- EDGE_RISE (41 R70), selector 1t11. -/
  | edgeRise (t : Bool)
  /-- EDGE_FALL (41 R71), selector 1t10. -/
  | edgeFall (t : Bool)
  /-- TIMEOUT (41 R72), selector 110s. -/
  | timeout (s : Bool)
  /-- QUALIFY (41 R73), selector with BIDIR in bit 2 and cond in bits 1:0. -/
  | qualify (bidir : Bool) (cond : BitVec 2)
  /-- BX_RESERVED (42 R89), selector 11qq. -/
  | bxReserved (qev : BitVec 2)
  /-- BX_NOP (42 R79), selector bb00 with bb other than 11. -/
  | bxNop (bx : BitVec 2)
  /-- BX_BEGIN (42 R80); operand `i`, the sample's index. -/
  | bxBegin (i : Index)
  /-- BX_IGN_IDLE_END (42 R84). -/
  | bxIgnIdleEnd
  /-- BX_IGN_IDLE_TMO (42 R85). -/
  | bxIgnIdleTmo
  /-- BX_IGN_STARTED_START (42 R87). -/
  | bxIgnStartedStart
  /-- BX_BOUND (42 R81); operand `i`. -/
  | bxBound (i : Index)
  /-- BX_IGN_STARTED_TMO (42 R86). -/
  | bxIgnStartedTmo
  /-- BX_NEXT (42 R82); operand `i`. -/
  | bxNext (i : Index)
  /-- BX_IGN_BOUNDED_END (42 R88). -/
  | bxIgnBoundedEnd
  /-- BX_FINAL (42 R83). -/
  | bxFinal
  /-- FLUSH_EMPTY (43 R94). -/
  | flushEmpty
  /-- FLUSH_FRAME (43 R95). -/
  | flushFrame
  /-- FLUSH_BADLEN (43 R96); `count` is the selector bcnt', other than 0 and 16. -/
  | flushBadlen (count : BitVec 5)
  /-- FLUSH_CLEAR (43 R97). -/
  | flushClear
  /-- BITVAL (42 R77). -/
  | bitval (start stop next : Index)
  /-- APPEND (43 R91). -/
  | append (b : DecodedBit)
  /-- FRAME_FIELDS (43 R93), operand F. -/
  | frameFields (f : BitVec 16)
  /-- CKSUM_FOLD (44 R99). -/
  | cksumFold (v : BitVec 12)
  /-- CKSUM_STD (44 R100), selected by BIDIR = 0. -/
  | cksumStd (v : BitVec 12)
  /-- CKSUM_BIDIR (44 R101), selected by BIDIR = 1. -/
  | cksumBidir (v : BitVec 12)
  /-- CKSUM_CMP (44 R102). -/
  | cksumCmp (expected nibble : BitVec 4)
  /-- CLASSIFY (45 R105). -/
  | classify (payload : BitVec 11)
deriving DecidableEq, Repr

/-- The encoded words that select an instruction, one constructor per format of 30_encoding that
has a selector, with the operands its rules pass beside the selector. -/
inductive Code where
  /-- A host command word (30 R46). -/
  | host (w : CommandWord)
  /-- The selector {v,t,e,s} (30 R49). -/
  | wait (sel : BitVec 4)
  /-- The selector {BIDIR, cond} (30 R50). -/
  | qualify (sel : BitVec 3)
  /-- The selector {bx,qev} (30 R51) and the operand i of 41 R67. -/
  | bx (sel : BitVec 4) (i : Index)
  /-- The selector bcnt' (30 R53). -/
  | flush (sel : BitVec 5)
  /-- The selector BIDIR of CKSUM_STD and CKSUM_BIDIR (30 R53) and their operand v. -/
  | cksum (sel : BitVec 1) (v : BitVec 12)
deriving DecidableEq, Repr

/-- The row's mnemonic in spec/opcode_table.json. -/
def Instr.mnemonic : Instr → String
  | .cfgw .. => "CFGW" | .cfgr .. => "CFGR" | .start => "START" | .sample .. => "SAMPLE"
  | .endStream => "END" | .reservedZero .. => "RESERVED" | .reservedSix .. => "RESERVED"
  | .reservedHigh .. => "RESERVED" | .refSample .. => "REF_SAMPLE" | .waitNone .. => "WAIT_NONE"
  | .edgeRise .. => "EDGE_RISE" | .edgeFall .. => "EDGE_FALL" | .timeout .. => "TIMEOUT"
  | .qualify .. => "QUALIFY" | .bxReserved .. => "BX_RESERVED" | .bxNop .. => "BX_NOP"
  | .bxBegin .. => "BX_BEGIN" | .bxIgnIdleEnd => "BX_IGN_IDLE_END"
  | .bxIgnIdleTmo => "BX_IGN_IDLE_TMO" | .bxIgnStartedStart => "BX_IGN_STARTED_START"
  | .bxBound .. => "BX_BOUND" | .bxIgnStartedTmo => "BX_IGN_STARTED_TMO" | .bxNext .. => "BX_NEXT"
  | .bxIgnBoundedEnd => "BX_IGN_BOUNDED_END" | .bxFinal => "BX_FINAL" | .flushEmpty => "FLUSH_EMPTY"
  | .flushFrame => "FLUSH_FRAME" | .flushBadlen .. => "FLUSH_BADLEN" | .flushClear => "FLUSH_CLEAR"
  | .bitval .. => "BITVAL" | .append .. => "APPEND" | .frameFields .. => "FRAME_FIELDS"
  | .cksumFold .. => "CKSUM_FOLD" | .cksumStd .. => "CKSUM_STD" | .cksumBidir .. => "CKSUM_BIDIR"
  | .cksumCmp .. => "CKSUM_CMP" | .classify .. => "CLASSIFY"

end Sys2Proof
end

