-- ==== Sys2Proof/Machine/State.lean ====
section
/-! DEFINITION. The machine's state as plain data (10_state), and the reasons a step can stop. -/

namespace Sys2Proof.Machine

/-- The run state (10_state R17). Its codes are `RunState.code` in Flags.lean. -/
inductive RunState where
  /-- 00: no run started; reached only at reset. -/
  | idle
  /-- 01: entered by a START that passes its checks. -/
  | running
  /-- 10: entered by a START that fails them. -/
  | faulted
  /-- 11: entered by END from RUNNING. -/
  | exhausted
deriving DecidableEq, Repr

/-- An event record `{startSample, endSample, category, payload}` (30_encoding R56). -/
structure Event where
  /-- START -/
  start   : Index
  /-- END -/
  stop    : Index
  /-- CAT, the codes of R57 -/
  cat     : BitVec 3
  /-- PAYLOAD, packed as R57 says -/
  payload : BitVec 16
deriving DecidableEq, Repr

/-- The fields of a frame word F (43_frame_assembler R93). -/
structure FrameFields where
  payload11     : BitVec 11
  telemetryFlag : Bool
  crcNibble     : BitVec 4
  crcInput12    : BitVec 12
deriving DecidableEq, Repr

/-- The value a combinational function of formats QUALIFY and DATAPATH returns to the rule that calls it
(30 R53); log entry 5. -/
inductive Result where
  /-- QUALIFY: the qualified event qev. -/
  | qev (q : BitVec 2)
  /-- BITVAL: a DecodedBit's value. -/
  | bit (value : Bool)
  /-- FRAME_FIELDS. -/
  | fields (f : FrameFields)
  /-- CKSUM_FOLD, CKSUM_STD, CKSUM_BIDIR: a nibble. -/
  | nibble (n : BitVec 4)
  /-- CKSUM_CMP. -/
  | ok (b : Bool)
  /-- CLASSIFY: the category code and the value. -/
  | category (cat : BitVec 3) (value : BitVec 11)
deriving DecidableEq, Repr

/-- One item of the host's input sequence (60 R122): a command word, or the reset input (70 R125). -/
inductive HostInput where
  | command (w : CommandWord)
  | resetLine
deriving DecidableEq, Repr

/-- The block's state: the registers of 10_state R10 (the table of R32), its two outputs (R29), and two
fields of the model's own, `result` and `input` (log entries 5 and 1). -/
structure State where
  /-- CTRL (R12): BIDIR in bit 0, RATE in bits 2:1, 31:3 read 0. -/
  ctrl       : Reg
  /-- SAMPLERATE (R13). -/
  samplerate : Reg
  /-- STATUS.RUN (R17). -/
  run        : RunState
  /-- STATUS.FAULT (R18). -/
  fault      : BitVec 4
  /-- PERIOD, N (R15). -/
  period     : Reg
  /-- TIMEOUT, 3N (R16). -/
  timeout    : Reg
  /-- prev_valid (R19). -/
  prevValid  : Bool
  /-- prev (R19): the level of the sample consumed last. -/
  prev       : Bool
  /-- idle (R21): samples since the last wait return. -/
  idle       : Reg
  /-- idx (R20): the index of the sample consumed last. -/
  idx        : Index
  /-- bx (R22): Idle 00, Started 01, Bounded 10; 11 is reserved. -/
  bx         : BitVec 2
  /-- pc_start (R23). -/
  pcStart    : Index
  /-- pc_end (R23). -/
  pcEnd      : Index
  /-- shift (R25). -/
  shift      : BitVec 16
  /-- bcnt (R26). -/
  bcnt       : BitVec 5
  /-- first_start (R27). -/
  firstStart : Index
  /-- nib_start (R27). -/
  nibStart   : Index
  /-- last_next (R27). -/
  lastNext   : Index
  /-- The event stream, oldest first (R29). -/
  events     : List Event
  /-- The host read-data port; `none` where it is not driven (R29, 93 X4). -/
  rdata      : Option Reg
  /-- The model's own: what the combinational function performed last returned. -/
  result     : Option Result
  /-- The model's own: the host's inputs not yet taken, oldest first. -/
  input      : List HostInput
deriving DecidableEq, Repr

/-- Why the machine stops where the spec asks a model to stop it. The block's own faults,
SampleRateMissing and PeriodZero, are NEXT states with run = FAULTED (60 R109), not these. -/
inductive Fault where
  /-- A step with bx = 11, raised by a command taken in that state and by BX_RESERVED (42 R89, 60 R111,
  93 V7): "It shall not pick a transition." Safe: the machine stops. -/
  | reservedBxState
deriving DecidableEq, Repr

/-- Why the model has no next state for an instruction. -/
inductive Refusal where
  /-- Raised by exec's arm of an instruction without a meaning; no arm raises it. Safe. -/
  | notModelled (mnemonic : String)
  /-- Raised by a sample after index 2^64 - 1 (10 R20, 70 R132, 93 X1: "A model must not wrap the
  index; it rejects the command sequence"). Safe: nothing is claimed of such a run. -/
  | indexOverflow
deriving DecidableEq, Repr

/-- What a meaning answers. -/
abbrev Out := Host.Outcome State Fault Refusal

/-- The machine right after reset (10_state R32, 70 R125): every register 0, run = IDLE, no event, rdata
not driven. The host has issued nothing. -/
def State.reset : State where
  ctrl := 0#32
  samplerate := 0#32
  run := .idle
  fault := 0#4
  period := 0#32
  timeout := 0#32
  prevValid := false
  prev := false
  idle := 0#32
  idx := 0#64
  bx := 0#2
  pcStart := 0#64
  pcEnd := 0#64
  shift := 0#16
  bcnt := 0#5
  firstStart := 0#64
  nibStart := 0#64
  lastNext := 0#64
  events := []
  rdata := none
  result := none
  input := []

end Sys2Proof.Machine
end

