-- ==== Sys2Proof/Machine/Flags.lean ====
section
/-! DEFINITION. Codes and flags: the run and fault codes, STATUS, the fields of CTRL, the condition and
event codes. The block has no arithmetic flags (10_state R30). -/

namespace Sys2Proof.Machine

/-- STATUS.RUN's code (10_state R14). -/
def RunState.code : RunState → BitVec 2
  | .idle => 0b00#2
  | .running => 0b01#2
  | .faulted => 0b10#2
  | .exhausted => 0b11#2

/-- Fault code 1, SampleRateMissing (60 R108). -/
def sampleRateMissing : BitVec 4 := 1#4

/-- Fault code 2, PeriodZero (60 R108). -/
def periodZero : BitVec 4 := 2#4

/-- STATUS as CFGR reads it (40 R61): `zext_32({bcnt, bx, fault, 2'b00, run})`. -/
def statusWord (s : State) : Reg :=
  (s.bcnt ++ s.bx ++ s.fault ++ 0#2 ++ s.run.code).setWidth 32

/-- CTRL.BIDIR (10_state R12). -/
def bidir (s : State) : Bool := s.ctrl.getLsbD 0

/-- CTRL.RATE (10_state R12). -/
def rate (s : State) : BitVec 2 := s.ctrl.extractLsb' 1 2

/-- BitExtractor state codes (10_state R22). -/
def bxIdle : BitVec 2 := 0b00#2
def bxStarted : BitVec 2 := 0b01#2
def bxBounded : BitVec 2 := 0b10#2

/-- The EdgeWaiter's condition codes (30 R49). -/
def condNone : BitVec 2 := 0b00#2
def condRise : BitVec 2 := 0b01#2
def condFall : BitVec 2 := 0b10#2
def condInactive : BitVec 2 := 0b11#2

/-- The qualified event codes (30 R50). -/
def qevNone : BitVec 2 := 0b00#2
def qevStartEdge : BitVec 2 := 0b01#2
def qevEndEdge : BitVec 2 := 0b10#2
def qevTmo : BitVec 2 := 0b11#2

/-- Event categories (30 R57); 101 to 111 are reserved. -/
def catBit : BitVec 3 := 0b000#3
def catCommand : BitVec 3 := 0b001#3
def catThrottle : BitVec 3 := 0b010#3
def catChecksum : BitVec 3 := 0b011#3
def catError : BitVec 3 := 0b100#3

/-- Error kinds as payloads (30 R57, 60 R112). -/
def invalidFrameLength : BitVec 16 := 1#16
def checksumMismatch : BitVec 16 := 2#16

/-- An event as one 147-bit word `{START[146:83], END[82:19], CAT[18:16], PAYLOAD[15:0]}` (30 R56). -/
def Event.toWord (e : Event) : BitVec 147 := e.start ++ e.stop ++ e.cat ++ e.payload

/-- The record an event word holds. -/
def Event.ofWord (w : BitVec 147) : Event where
  start := w.extractLsb' 83 64
  stop := w.extractLsb' 19 64
  cat := w.extractLsb' 16 3
  payload := w.extractLsb' 0 16

end Sys2Proof.Machine
end

