-- ==== Sys2Proof/Machine/Operands.lean ====
section
/-! DEFINITION. Operand forms: the selectors the units form from the state and the sample, and the values
START computes from the configuration. -/

namespace Sys2Proof.Machine

/-- The period literal M in units of 1e-8 s (00_scope R5). -/
def periodLiteral (r : BitVec 2) : Nat :=
  if r = 0#2 then 667 else if r = 1#2 then 333 else if r = 2#2 then 167 else 83

/-- `N = floor(SR * M / 10^8)`, exact (00_scope R5, 40 R63). -/
def nominalPeriod (sr : Reg) (r : BitVec 2) : Nat :=
  sr.toNat * periodLiteral r / Config.periodUnit

/-- `t = (idle + 1 == TIMEOUT)` (30 R49), on exact integers. -/
def timeoutDue (s : State) : Bool := decide (s.idle.toNat + 1 = s.timeout.toNat)

/-- The WAIT selector {v,t,e,s} from values before the step (30 R49). -/
def waitSel (level : Bool) (s : State) : BitVec 4 :=
  BitVec.ofBool s.prevValid ++ BitVec.ofBool (timeoutDue s) ++ BitVec.ofBool (xor s.prev level) ++ BitVec.ofBool level

/-- QUALIFY (41 R73): the condition through the line polarity. -/
def qualify (cond : BitVec 2) (bidir : Bool) : BitVec 2 :=
  if cond = condRise then (if bidir then qevEndEdge else qevStartEdge)
  else if cond = condFall then (if bidir then qevStartEdge else qevEndEdge)
  else cond

/-- The BX selector {bx,qev} (30 R51). -/
def bxSel (qev : BitVec 2) (s : State) : BitVec 4 := s.bx ++ qev

/-- The inactivity count after one more sample (41 R67); past 2^32 - 1 a free value (log entry 10). -/
def idleSucc (idle : Reg) : Reg :=
  if idle.toNat + 1 < 2 ^ 32 then idle + 1#32 else Config.idleUnstated idle

/-- BITVAL (42 R77): `2 * duty > period` on exact integers. With `stop` or `next` before `start` the rule
states no result: a free value (log entry 8). -/
def bitval (start stop next : Index) : Bool :=
  if start.toNat ≤ stop.toNat ∧ start.toNat ≤ next.toNat then
    decide (2 * (stop.toNat - start.toNat) > next.toNat - start.toNat)
  else Config.bitvalUnstated start stop next

/-- The synthesized trailing edge `pc_start + N` of BX_FINAL (42 R83); past W_IDX bits a free value
(log entry 9). -/
def synthesizedNext (start : Index) (n : Reg) : Index :=
  if start.toNat + n.toNat < 2 ^ 64 then start + n.setWidth 64 else Config.nextUnstated start n

end Sys2Proof.Machine
end

