-- ==== Sys2Proof/Machine/Ops.lean ====
section
/-! DEFINITION. The named operations over the registers and the two outputs. The block has no memory
(20_memory R33). -/

namespace Sys2Proof.Machine

/-- `Reg(a)` read (20 R34, 40 R61): STATUS is assembled, a reserved address reads 0. -/
def readReg (addr : BitVec 4) (s : State) : Reg :=
  if addr = 0#4 then s.ctrl
  else if addr = 1#4 then s.samplerate
  else if addr = 2#4 then statusWord s
  else if addr = 3#4 then s.period
  else if addr = 4#4 then s.timeout
  else 0#32

/-- `Reg(a) <- v` (40 R60): CTRL keeps DATA[2:0]; read-only and reserved addresses ignore the write. -/
def writeReg (addr : BitVec 4) (data : Reg) (s : State) : State :=
  if addr = 0#4 then { s with ctrl := (data.extractLsb' 0 3).setWidth 32 }
  else if addr = 1#4 then { s with samplerate := data }
  else s

/-- `respond(v)`: drive the host read-data port (00_scope R8). -/
def State.respond (v : Reg) (s : State) : State := { s with rdata := some v }

/-- Return a combinational function's value to its caller (log entry 5). -/
def State.give (r : Result) (s : State) : State := { s with result := some r }

/-- The outputs as a step finds them: rdata is driven only in a CFGR step (10_state R29). -/
def State.undriven (s : State) : State := { s with rdata := none, result := none }

/-- `emit Event(cat, start, end, payload)`: append one record (00_scope R8, 10_state R29). -/
def State.emit (e : Event) (s : State) : State := { s with events := s.events ++ [e] }

/-- START's datapath clear (40 R64, first list). -/
def State.clearDatapath (s : State) : State :=
  { s with
    prevValid := false, prev := false, idle := 0#32, idx := 0#64
    bx := bxIdle, pcStart := 0#64, pcEnd := 0#64
    shift := 0#16, bcnt := 0#5, firstStart := 0#64, nibStart := 0#64, lastNext := 0#64 }

/-- TAKING THE BLOCK'S FAULT: `raise Fault(code)` (60 R109, points 2 and 3; the datapath is cleared
before it). Nothing else is saved, nothing is emitted, and there is no return from it (R110). -/
def State.raiseFault (code : BitVec 4) (s : State) : State :=
  { s with period := 0#32, timeout := 0#32, fault := code, run := .faulted }

/-- A START that passes its checks (40 R63, R64): PERIOD <- N, TIMEOUT <- 3N, fault <- 0, RUNNING. -/
def State.enterRunning (n : Nat) (s : State) : State :=
  { s with
    period := BitVec.ofNat 32 n, timeout := BitVec.ofNat 32 (Config.timeoutMult * n)
    fault := 0#4, run := .running }

/-- REF_SAMPLE's writes (41 R68). -/
def State.reference (level : Bool) (s : State) : State :=
  { s with prev := level, prevValid := true, idx := 0#64, idle := 0#32 }

/-- The EdgeWaiter's writes at a later sample (41 R67): a wait return restarts the count. -/
def State.advance (cond : BitVec 2) (level : Bool) (s : State) : State :=
  { s with
    idx := s.idx + 1#64, prev := level
    idle := if cond = condNone then idleSucc s.idle else 0#32 }

/-- A pulse candidate begins at index `i`: Started (42 R80, R82). -/
def State.beginPulse (i : Index) (s : State) : State := { s with pcStart := i, bx := bxStarted }

/-- The pulse candidate's pulse ends at index `i`: Bounded (42 R81). -/
def State.boundPulse (i : Index) (s : State) : State := { s with pcEnd := i, bx := bxBounded }

/-- The pulse candidate is complete: Idle (42 R83). -/
def State.closePulse (s : State) : State := { s with bx := bxIdle }

/-- APPEND (43 R91): shift in the value, count with saturation, keep the three indices. -/
def State.appendBit (b : DecodedBit) (s : State) : State :=
  { s with
    shift := s.shift.extractLsb' 0 15 ++ BitVec.ofBool b.value
    firstStart := if s.bcnt = 0#5 then b.start else s.firstStart
    nibStart := if s.bcnt = Config.nibbleAt then b.start else s.nibStart
    lastNext := b.next
    bcnt := if s.bcnt = Config.countMax then Config.countMax else s.bcnt + 1#5 }

/-- FLUSH_CLEAR's writes (43 R97). -/
def State.clearBuffer (s : State) : State :=
  { s with shift := 0#16, bcnt := 0#5, firstStart := 0#64, nibStart := 0#64, lastNext := 0#64 }

end Sys2Proof.Machine
end

