-- ==== Sys2Proof/Machine/Checksum.lean ====
section
/-! DEFINITION. The ChecksumEngine (44_checksum): CKSUM_FOLD, CKSUM_STD, CKSUM_BIDIR, CKSUM_CMP. -/

namespace Sys2Proof.Machine

/-- FOLD (R99): `(v ^ (v >> 4) ^ (v >> 8)) & 0xF`. -/
def cksumFold (v : BitVec 12) : BitVec 4 := (v ^^^ (v >>> 4) ^^^ (v >>> 8)).extractLsb' 0 4

/-- The standard-mode formula (R100). -/
def cksumStd (v : BitVec 12) : BitVec 4 := cksumFold v

/-- The bidirectional-mode formula (R101): the complement of the full-width value, then masked. -/
def cksumBidir (v : BitVec 12) : BitVec 4 := (~~~(v ^^^ (v >>> 4) ^^^ (v >>> 8))).extractLsb' 0 4

/-- The validation (R102). -/
def cksumCmp (expected nibble : BitVec 4) : Bool := decide (expected = nibble)

/-- The formula CTRL.BIDIR selects (43 R95). -/
def expectedNibble (bidir : Bool) (v : BitVec 12) : BitVec 4 :=
  if bidir then cksumBidir v else cksumStd v

/-- CKSUM_FOLD (R99). -/
def execCksumFold (v : BitVec 12) (s : State) : Out := .next (s.give (.nibble (cksumFold v)))

/-- CKSUM_STD (R100). -/
def execCksumStd (v : BitVec 12) (s : State) : Out := .next (s.give (.nibble (cksumStd v)))

/-- CKSUM_BIDIR (R101). -/
def execCksumBidir (v : BitVec 12) (s : State) : Out := .next (s.give (.nibble (cksumBidir v)))

/-- CKSUM_CMP (R102). -/
def execCksumCmp (expected nibble : BitVec 4) (s : State) : Out :=
  .next (s.give (.ok (cksumCmp expected nibble)))

end Sys2Proof.Machine
end

