-- ==== Sys2Proof/Machine/Classifier.lean ====
section
/-! DEFINITION. The Classifier (45_classifier): CLASSIFY. -/

namespace Sys2Proof.Machine

/-- The category of a payload (R105): Command below 48, else Throttle; the value is the payload itself. -/
def classify (p : BitVec 11) : BitVec 3 × BitVec 11 :=
  if p.toNat < Config.cmdLimit then (catCommand, p) else (catThrottle, p)

/-- CLASSIFY (R105). -/
def execClassify (p : BitVec 11) (s : State) : Out :=
  .next (s.give (.category (classify p).1 (classify p).2))

end Sys2Proof.Machine
end

