-- ==== Sys2Proof/Machine/FrameAssembler.lean ====
section
/-! DEFINITION. The FrameAssembler (43_frame_assembler): APPEND, FRAME_FIELDS, the four FLUSH rows and
the frame boundary. A flush reads the state after its step's APPEND, that is, R91's primed values. -/

namespace Sys2Proof.Machine

/-- The fields of a frame word (R93, 30 R54). -/
def frameFields (f : BitVec 16) : FrameFields where
  payload11 := f.extractLsb' 5 11
  telemetryFlag := f.getLsbD 4
  crcNibble := f.extractLsb' 0 4
  crcInput12 := f.extractLsb' 4 12

/-- The Classifier's event (45 R106). -/
def classifierEvent (s : State) : Event :=
  let c := classify (frameFields s.shift).payload11
  { start := s.firstStart, stop := s.nibStart, cat := c.1, payload := c.2.setWidth 16 }

/-- The checksum the frame's mode expects (R95). -/
def frameExpected (s : State) : BitVec 4 :=
  expectedNibble (bidir s) (frameFields s.shift).crcInput12

/-- The Checksum event (44 R103, point 1): computed nibble in [7:4], transmitted in [3:0]. -/
def checksumEvent (s : State) : Event :=
  { start := s.nibStart, stop := s.lastNext, cat := catChecksum
    payload := (frameExpected s ++ (frameFields s.shift).crcNibble).setWidth 16 }

/-- The ChecksumMismatch event (44 R103, point 2). -/
def mismatchEvent (s : State) : Event :=
  { start := s.nibStart, stop := s.lastNext, cat := catError, payload := checksumMismatch }

/-- The InvalidFrameLength event (R96). -/
def badLengthEvent (s : State) : Event :=
  { start := s.firstStart, stop := s.lastNext, cat := catError, payload := invalidFrameLength }

/-- A boundary with 16 bits (R95): Command or Throttle, Checksum, and Error on a mismatch. -/
def State.reportFrame (s : State) : State :=
  let t := (s.emit (classifierEvent s)).emit (checksumEvent s)
  if cksumCmp (frameExpected s) (frameFields s.shift).crcNibble then t else t.emit (mismatchEvent s)

/-- A boundary with any other count but 0 (R96). -/
def State.reportBadLength (s : State) : State := s.emit (badLengthEvent s)

/-- The frame boundary (R92): the flush that the count selects, then FLUSH_CLEAR. -/
def State.boundary (s : State) : State :=
  (if s.bcnt = 0#5 then s
   else if s.bcnt = 16#5 then s.reportFrame
   else s.reportBadLength).clearBuffer

/-- APPEND (R91). -/
def execAppend (b : DecodedBit) (s : State) : Out := .next (s.appendBit b)

/-- FRAME_FIELDS (R93). -/
def execFrameFields (f : BitVec 16) (s : State) : Out := .next (s.give (.fields (frameFields f)))

/-- FLUSH_EMPTY (R94): nothing. -/
def execFlushEmpty (s : State) : Out := .next s

/-- FLUSH_FRAME (R95). -/
def execFlushFrame (s : State) : Out := .next s.reportFrame

/-- FLUSH_BADLEN (R96); its selector bcnt' only selects it. -/
def execFlushBadlen (_count : BitVec 5) (s : State) : Out := .next s.reportBadLength

/-- FLUSH_CLEAR (R97). -/
def execFlushClear (s : State) : Out := .next s.clearBuffer

end Sys2Proof.Machine
end

