-- ==== Sys2Proof/Machine/BitExtractor.lean ====
section
/-! DEFINITION. The BitExtractor (42_bit_extractor): BITVAL, the eleven BX rows and the step that selects
among them. The operand `i` is the index of the sample being consumed (41 R67). -/

namespace Sys2Proof.Machine

/-- BITVAL (R77). -/
def execBitval (start stop next : Index) (s : State) : Out :=
  .next (s.give (.bit (bitval start stop next)))

/-- The DecodedBit that a trailing edge at `next` completes (R82, R83). -/
def decodedBit (next : Index) (s : State) : DecodedBit :=
  { start := s.pcStart, stop := s.pcEnd, next := next, value := bitval s.pcStart s.pcEnd next }

/-- The Bit event of a DecodedBit (R78): it spans the whole cell. -/
def bitEvent (b : DecodedBit) : Event :=
  { start := b.start, stop := b.next, cat := catBit, payload := (BitVec.ofBool b.value).setWidth 16 }

/-- A DecodedBit is reported, then appended (R76). -/
def State.produceBit (b : DecodedBit) (s : State) : State := (s.emit (bitEvent b)).appendBit b

/-- BX_RESERVED (R89): the model-level fault. -/
def execBxReserved (_qev : BitVec 2) (_s : State) : Out := .fault .reservedBxState

/-- BX_NOP (R79): nothing. -/
def execBxNop (_bx : BitVec 2) (s : State) : Out := .next s

/-- BX_BEGIN (R80). -/
def execBxBegin (i : Index) (s : State) : Out := .next (s.beginPulse i)

/-- BX_BOUND (R81). -/
def execBxBound (i : Index) (s : State) : Out := .next (s.boundPulse i)

/-- BX_NEXT (R82): report and append the bit; it signals no frame boundary, whatever bcnt becomes. -/
def execBxNext (i : Index) (s : State) : Out :=
  .next ((s.produceBit (decodedBit i s)).beginPulse i)

/-- BX_FINAL (R83): the synthesized trailing edge, then the frame boundary. -/
def execBxFinal (s : State) : Out :=
  let b := decodedBit (synthesizedNext s.pcStart s.period) s
  .next (s.produceBit b).closePulse.boundary

/-- BX_IGN_IDLE_END (R84): nothing. -/
def execBxIgnIdleEnd (s : State) : Out := .next s

/-- BX_IGN_IDLE_TMO (R85): nothing. -/
def execBxIgnIdleTmo (s : State) : Out := .next s

/-- BX_IGN_STARTED_TMO (R86): nothing. -/
def execBxIgnStartedTmo (s : State) : Out := .next s

/-- BX_IGN_STARTED_START (R87): nothing. -/
def execBxIgnStartedStart (s : State) : Out := .next s

/-- BX_IGN_BOUNDED_END (R88): nothing. -/
def execBxIgnBoundedEnd (s : State) : Out := .next s

/-- The BitExtractor step with (qev, i) (R76): the first operation of 30 R51's table, in its priority
order, that the selector {bx,qev} matches. -/
def bxStep (qev : BitVec 2) (i : Index) (s : State) : Out :=
  let sel := bxSel qev s
  if s.bx = 3#2 then execBxReserved qev s
  else if qev = qevNone then execBxNop s.bx s
  else if sel = 0b0001#4 then execBxBegin i s
  else if sel = 0b0010#4 then execBxIgnIdleEnd s
  else if sel = 0b0011#4 then execBxIgnIdleTmo s
  else if sel = 0b0101#4 then execBxIgnStartedStart s
  else if sel = 0b0110#4 then execBxBound i s
  else if sel = 0b0111#4 then execBxIgnStartedTmo s
  else if sel = 0b1001#4 then execBxNext i s
  else if sel = 0b1010#4 then execBxIgnBoundedEnd s
  else execBxFinal s

end Sys2Proof.Machine
end

