-- ==== Sys2Proof/Machine/EdgeWaiter.lean ====
section
/-! DEFINITION. The EdgeWaiter (41_edge_waiter): the five WAIT rows, QUALIFY, and the step that selects
among them. -/

namespace Sys2Proof.Machine

/-- A sample after the first, with the condition reported (R67): the EdgeWaiter's registers, QUALIFY, and
the BitExtractor step. The index is never wrapped: past 2^64 - 1 the sample is refused (10_state R20,
93 X1). -/
def waitReturn (cond : BitVec 2) (level : Bool) (s : State) : Out :=
  if s.idx = BitVec.allOnes 64 then .refused .indexOverflow
  else bxStep (qualify cond (bidir s)) (s.idx + 1#64) (s.advance cond level)

/-- REF_SAMPLE (R68): the first sample of a run; no BitExtractor step. -/
def execRefSample (_t _e level : Bool) (s : State) : Out := .next (s.reference level)

/-- WAIT_NONE (R69). -/
def execWaitNone (level : Bool) (s : State) : Out := waitReturn condNone level s

/-- EDGE_RISE (R70): the sample is at level 1, whatever t is. -/
def execEdgeRise (_t : Bool) (s : State) : Out := waitReturn condRise true s

/-- EDGE_FALL (R71): the sample is at level 0, whatever t is. -/
def execEdgeFall (_t : Bool) (s : State) : Out := waitReturn condFall false s

/-- TIMEOUT (R72). -/
def execTimeout (level : Bool) (s : State) : Out := waitReturn condInactive level s

/-- QUALIFY (R73). -/
def execQualify (bidir : Bool) (cond : BitVec 2) (s : State) : Out :=
  .next (s.give (.qev (qualify cond bidir)))

/-- The EdgeWaiter step with level `level` (R67): the one operation of 30 R49's table that {v,t,e,s}
matches. An edge takes priority over the timeout. -/
def edgeWaiterStep (level : Bool) (s : State) : Out :=
  let t := timeoutDue s
  let e := xor s.prev level
  if !s.prevValid then execRefSample t e level s
  else if e then (if level then execEdgeRise t s else execEdgeFall t s)
  else if t then execTimeout level s
  else execWaitNone level s

end Sys2Proof.Machine
end

