-- ==== Sys2Proof/Machine/HostCommands.lean ====
section
/-! DEFINITION. The host commands (40_host_commands): CFGW, CFGR, START, SAMPLE, END, and the reserved
OPs. 60 R118 gives the effect of each in each run state. -/

namespace Sys2Proof.Machine

/-- CFGW (R60): dropped while RUNNING. -/
def execCfgw (addr : BitVec 4) (data : Reg) (s : State) : Out :=
  if s.run = .running then .next s else .next (writeReg addr data s)

/-- CFGR (R61): responds in every run state with the state before the step. -/
def execCfgr (addr : BitVec 4) (s : State) : Out := .next (s.respond (readReg addr s))

/-- START (R62, R63, R64): ignored while RUNNING; else the datapath is cleared, SampleRateMissing is
checked before PeriodZero, and a run begins when both checks pass. -/
def execStart (s : State) : Out :=
  let n := nominalPeriod s.samplerate (rate s)
  if s.run = .running then .next s
  else if s.samplerate = 0#32 then .next (s.clearDatapath.raiseFault sampleRateMissing)
  else if n = 0 then .next (s.clearDatapath.raiseFault periodZero)
  else .next (s.clearDatapath.enterRunning n)

/-- SAMPLE (R65): outside RUNNING no effect. -/
def execSample (level : Bool) (s : State) : Out :=
  if s.run = .running then edgeWaiterStep level s else .next s

/-- END (R66): StreamExhausted; nothing is flushed. -/
def execEndStream (s : State) : Out :=
  if s.run = .running then .next { s with run := .exhausted } else .next s

/-- RESERVED, OP 0x0 (30 R52): no operation. -/
def execReservedZero (_addr : BitVec 4) (_data : Reg) (s : State) : Out := .next s

/-- RESERVED, OP 0x6 and 0x7 (30 R52): no operation. -/
def execReservedSix (_op : BitVec 1) (_addr : BitVec 4) (_data : Reg) (s : State) : Out := .next s

/-- RESERVED, OP 0x8 to 0xF (30 R52): no operation. -/
def execReservedHigh (_op : BitVec 3) (_addr : BitVec 4) (_data : Reg) (s : State) : Out := .next s

end Sys2Proof.Machine
end

