-- ==== Sys2Proof/Machine/Dispatch.lean ====
section
/-! DEFINITION. The dispatch: one arm per row of spec/opcode_table.json. -/

namespace Sys2Proof.Machine

def exec (i : Instr) (s : State) : Host.Outcome State Fault Refusal :=
  match i with
  -- format HOST
  | .cfgw addr data => Sys2Proof.Machine.execCfgw addr data s
  | .cfgr addr => Sys2Proof.Machine.execCfgr addr s
  | .start => Sys2Proof.Machine.execStart s
  | .sample level => Sys2Proof.Machine.execSample level s
  | .endStream => Sys2Proof.Machine.execEndStream s
  | .reservedZero addr data => Sys2Proof.Machine.execReservedZero addr data s
  | .reservedSix op addr data => Sys2Proof.Machine.execReservedSix op addr data s
  | .reservedHigh op addr data => Sys2Proof.Machine.execReservedHigh op addr data s
  -- format WAIT
  | .refSample t e level => Sys2Proof.Machine.execRefSample t e level s
  | .waitNone level => Sys2Proof.Machine.execWaitNone level s
  | .edgeRise t => Sys2Proof.Machine.execEdgeRise t s
  | .edgeFall t => Sys2Proof.Machine.execEdgeFall t s
  | .timeout level => Sys2Proof.Machine.execTimeout level s
  -- format QUALIFY
  | .qualify bidir cond => Sys2Proof.Machine.execQualify bidir cond s
  -- format BX
  | .bxReserved qev => Sys2Proof.Machine.execBxReserved qev s
  | .bxNop bx => Sys2Proof.Machine.execBxNop bx s
  | .bxBegin idx => Sys2Proof.Machine.execBxBegin idx s
  | .bxIgnIdleEnd => Sys2Proof.Machine.execBxIgnIdleEnd s
  | .bxIgnIdleTmo => Sys2Proof.Machine.execBxIgnIdleTmo s
  | .bxIgnStartedStart => Sys2Proof.Machine.execBxIgnStartedStart s
  | .bxBound idx => Sys2Proof.Machine.execBxBound idx s
  | .bxIgnStartedTmo => Sys2Proof.Machine.execBxIgnStartedTmo s
  | .bxNext idx => Sys2Proof.Machine.execBxNext idx s
  | .bxIgnBoundedEnd => Sys2Proof.Machine.execBxIgnBoundedEnd s
  | .bxFinal => Sys2Proof.Machine.execBxFinal s
  -- format FLUSH
  | .flushEmpty => Sys2Proof.Machine.execFlushEmpty s
  | .flushFrame => Sys2Proof.Machine.execFlushFrame s
  | .flushBadlen count => Sys2Proof.Machine.execFlushBadlen count s
  | .flushClear => Sys2Proof.Machine.execFlushClear s
  -- format DATAPATH
  | .bitval start stop next => Sys2Proof.Machine.execBitval start stop next s
  | .append b => Sys2Proof.Machine.execAppend b s
  | .frameFields f => Sys2Proof.Machine.execFrameFields f s
  | .cksumFold v => Sys2Proof.Machine.execCksumFold v s
  | .cksumStd v => Sys2Proof.Machine.execCksumStd v s
  | .cksumBidir v => Sys2Proof.Machine.execCksumBidir v s
  | .cksumCmp expected nibble => Sys2Proof.Machine.execCksumCmp expected nibble s
  | .classify payload => Sys2Proof.Machine.execClassify payload s

end Sys2Proof.Machine
end

