-- ==== Sys2Proof/WellFormed.lean ====
section
/-! DEFINITION. Which terms of `Instr` the encodings can select. -/

namespace Sys2Proof

/-- The check of each row. The selector patterns leave two operands restricted: BX_NOP is selected only
with bx other than 11, since BX_RESERVED has priority (30 R51), and FLUSH_BADLEN only with a count other
than 0 and 16 (43 R96). Every other operand takes every value of its width. -/
def Instr.wellFormed : Instr → Bool
  | .bxNop bx => decide (bx ≠ 3#2)
  | .flushBadlen n => decide (n ≠ 0#5) && decide (n ≠ 16#5)
  | .cfgw .. => true | .cfgr .. => true | .start => true | .sample .. => true | .endStream => true
  | .reservedZero .. => true | .reservedSix .. => true | .reservedHigh .. => true
  | .refSample .. => true | .waitNone .. => true | .edgeRise .. => true | .edgeFall .. => true
  | .timeout .. => true | .qualify .. => true | .bxReserved .. => true | .bxBegin .. => true
  | .bxIgnIdleEnd => true | .bxIgnIdleTmo => true | .bxIgnStartedStart => true | .bxBound .. => true
  | .bxIgnStartedTmo => true | .bxNext .. => true | .bxIgnBoundedEnd => true | .bxFinal => true
  | .flushEmpty => true | .flushFrame => true | .flushClear => true | .bitval .. => true
  | .append .. => true | .frameFields .. => true | .cksumFold .. => true | .cksumStd .. => true
  | .cksumBidir .. => true | .cksumCmp .. => true | .classify .. => true

end Sys2Proof
end

