-- ==== Sys2Proof/Decode.lean ====
section
/-! DEFINITION. Decoding (30_encoding sections 1 to 4), then the encoder, then the opcode table's rows. -/

namespace Sys2Proof

/-- The host command decoder (30 R46, R47, R48, R52): total, it needs only OP to tell the command, and
drops the fields a command does not use. -/
def decodeHost (w : CommandWord) : Instr :=
  let op := w.extractLsb' 36 4
  let addr := w.extractLsb' 32 4
  let data := w.extractLsb' 0 32
  if op = 1#4 then .cfgw addr data
  else if op = 2#4 then .cfgr addr
  else if op = 3#4 then .start
  else if op = 4#4 then .sample (data.getLsbD 0)
  else if op = 5#4 then .endStream
  else if op = 0#4 then .reservedZero addr data
  else if op.extractLsb' 1 3 = 3#3 then .reservedSix (op.extractLsb' 0 1) addr data
  else .reservedHigh (op.extractLsb' 0 3) addr data

/-- The EdgeWaiter selector {v,t,e,s} (30 R49): the five patterns are disjoint and cover all 16 values. -/
def decodeWait (sel : BitVec 4) : Instr :=
  let v := sel.getLsbD 3
  let t := sel.getLsbD 2
  let e := sel.getLsbD 1
  let s := sel.getLsbD 0
  if !v then .refSample t e s
  else if e then (if s then .edgeRise t else .edgeFall t)
  else if t then .timeout s
  else .waitNone s

/-- The QUALIFY selector {BIDIR, cond} (30 R50). -/
def decodeQualify (sel : BitVec 3) : Instr :=
  .qualify (sel.getLsbD 2) (sel.extractLsb' 0 2)

/-- The BitExtractor selector {bx,qev} (30 R51), in the table's priority order; `i` is the index the
EdgeWaiter passes (41 R67). -/
def decodeBx (sel : BitVec 4) (i : Index) : Instr :=
  if sel.extractLsb' 2 2 = 3#2 then .bxReserved (sel.extractLsb' 0 2)
  else if sel.extractLsb' 0 2 = 0#2 then .bxNop (sel.extractLsb' 2 2)
  else if sel = 0b0001#4 then .bxBegin i
  else if sel = 0b0010#4 then .bxIgnIdleEnd
  else if sel = 0b0011#4 then .bxIgnIdleTmo
  else if sel = 0b0101#4 then .bxIgnStartedStart
  else if sel = 0b0110#4 then .bxBound i
  else if sel = 0b0111#4 then .bxIgnStartedTmo
  else if sel = 0b1001#4 then .bxNext i
  else if sel = 0b1010#4 then .bxIgnBoundedEnd
  else .bxFinal

/-- The FLUSH selector bcnt' (30 R53). -/
def decodeFlush (sel : BitVec 5) : Instr :=
  if sel = 0#5 then .flushEmpty
  else if sel = 16#5 then .flushFrame
  else .flushBadlen sel

/-- The checksum selector BIDIR (30 R53). -/
def decodeCksum (sel : BitVec 1) (v : BitVec 12) : Instr :=
  if sel = 1#1 then .cksumBidir v else .cksumStd v

/-- The instruction an encoded word selects. -/
def decode : Code → Instr
  | .host w => decodeHost w
  | .wait sel => decodeWait sel
  | .qualify sel => decodeQualify sel
  | .bx sel i => decodeBx sel i
  | .flush sel => decodeFlush sel
  | .cksum sel v => decodeCksum sel v

/-- Why a string of bits is no encoded word of the block. -/
inductive DecodeError where
  /-- The length is neither a command's 40 bits nor a selector's byte. Safe: nothing runs. -/
  | wrongLength
  /-- The value does not fit the word it is given as. Safe: nothing runs. -/
  | tooWide
deriving DecidableEq, Repr

/-- The word that `nbits` bits of value `w` are. 40 bits are a host command. Eight bits are an internal
selector: the formats' selectors overlap and carry no tag, and the byte is read as a BX selector when it
is below 16 and as a FLUSH selector above (DESIGN CHOICE, log entry 7); the operand `i` is not in the byte
and is 0. -/
def codeOfBits (nbits w : Nat) : Except DecodeError Code :=
  if nbits = 40 then
    if w < 2 ^ 40 then .ok (.host (BitVec.ofNat 40 w)) else .error .tooWide
  else if nbits = 8 then
    if w < 16 then .ok (.bx (BitVec.ofNat 4 w) 0#64)
    else if w < 32 then .ok (.flush (BitVec.ofNat 5 w))
    else .error .tooWide
  else .error .wrongLength

/-- The decoder on any bits, rejecting by name. -/
def decodeBits (nbits w : Nat) : Except DecodeError Instr :=
  match codeOfBits nbits w with
  | .ok c => .ok (decode c)
  | .error r => .error r

/-- What `decodeBits` reads, for the host's question about the opcode table's rows. -/
def decodeTableWord (nbits w : Nat) : Option Instr :=
  match decodeBits nbits w with
  | .ok i => some i
  | .error _ => none

/-- A host command word from its three fields (30 R46). -/
def commandWord (op addr : BitVec 4) (data : Reg) : CommandWord := (op ++ addr) ++ data

/-- The encoded word of an instruction; `none` for the rows that no pattern selects and whose operands
have no place in a word: they are called by the step rules (30 R53, and each row's note in the opcode
table). Fields a command does not use are zero, as R48 asks. -/
def encode : Instr → Option Code
  | .cfgw addr data => some (.host (commandWord 1#4 addr data))
  | .cfgr addr => some (.host (commandWord 2#4 addr 0#32))
  | .start => some (.host (commandWord 3#4 0#4 0#32))
  | .sample level => some (.host (commandWord 4#4 0#4 (if level then 1#32 else 0#32)))
  | .endStream => some (.host (commandWord 5#4 0#4 0#32))
  | .reservedZero addr data => some (.host (commandWord 0#4 addr data))
  | .reservedSix op addr data => some (.host (commandWord (3#3 ++ op) addr data))
  | .reservedHigh op addr data => some (.host (commandWord (1#1 ++ op) addr data))
  | .refSample t e s => some (.wait (0#1 ++ BitVec.ofBool t ++ BitVec.ofBool e ++ BitVec.ofBool s))
  | .waitNone s => some (.wait (4#3 ++ BitVec.ofBool s))
  | .edgeRise t => some (.wait (1#1 ++ BitVec.ofBool t ++ 3#2))
  | .edgeFall t => some (.wait (1#1 ++ BitVec.ofBool t ++ 2#2))
  | .timeout s => some (.wait (6#3 ++ BitVec.ofBool s))
  | .qualify bidir cond => some (.qualify (BitVec.ofBool bidir ++ cond))
  | .bxReserved qev => some (.bx (3#2 ++ qev) 0#64)
  | .bxNop bx => some (.bx (bx ++ 0#2) 0#64)
  | .bxBegin i => some (.bx 0b0001#4 i)
  | .bxIgnIdleEnd => some (.bx 0b0010#4 0#64)
  | .bxIgnIdleTmo => some (.bx 0b0011#4 0#64)
  | .bxIgnStartedStart => some (.bx 0b0101#4 0#64)
  | .bxBound i => some (.bx 0b0110#4 i)
  | .bxIgnStartedTmo => some (.bx 0b0111#4 0#64)
  | .bxNext i => some (.bx 0b1001#4 i)
  | .bxIgnBoundedEnd => some (.bx 0b1010#4 0#64)
  | .bxFinal => some (.bx 0b1011#4 0#64)
  | .flushEmpty => some (.flush 0#5)
  | .flushFrame => some (.flush 16#5)
  | .flushBadlen n => some (.flush n)
  | .cksumStd v => some (.cksum 0#1 v)
  | .cksumBidir v => some (.cksum 1#1 v)
  | .flushClear => none
  | .bitval .. => none
  | .append .. => none
  | .frameFields .. => none
  | .cksumFold .. => none
  | .cksumCmp .. => none
  | .classify .. => none

/-- A row of spec/opcode_table.json: a selector x matches when `x &&& mask = pattern`. -/
structure Row where
  mnemonic : String
  pattern  : Nat
  mask     : Nat
  /-- The lowest matching priority wins (30_encoding, introduction); 0 where the table gives none. -/
  priority : Nat := 0
deriving DecidableEq, Repr

/-- Whether a selector's value matches a row. -/
def Row.admits (r : Row) (x : Nat) : Bool := x &&& r.mask == r.pattern

/-- The rows of format HOST. -/
def hostRows : List Row :=
  [ ⟨"CFGW", 0x1000000000, 0xF000000000, 0⟩, ⟨"CFGR", 0x2000000000, 0xF000000000, 0⟩,
    ⟨"START", 0x3000000000, 0xF000000000, 0⟩, ⟨"SAMPLE", 0x4000000000, 0xF000000000, 0⟩,
    ⟨"END", 0x5000000000, 0xF000000000, 0⟩, ⟨"RESERVED", 0x0000000000, 0xF000000000, 0⟩,
    ⟨"RESERVED", 0x6000000000, 0xE000000000, 0⟩, ⟨"RESERVED", 0x8000000000, 0x8000000000, 0⟩ ]

/-- The rows of format WAIT. -/
def waitRows : List Row :=
  [ ⟨"REF_SAMPLE", 0x0, 0x8, 0⟩, ⟨"WAIT_NONE", 0x8, 0xE, 0⟩, ⟨"EDGE_RISE", 0xB, 0xB, 0⟩,
    ⟨"EDGE_FALL", 0xA, 0xB, 0⟩, ⟨"TIMEOUT", 0xC, 0xE, 0⟩ ]

/-- The rows of format BX, in priority order. -/
def bxRows : List Row :=
  [ ⟨"BX_RESERVED", 0xC, 0xC, 0⟩, ⟨"BX_NOP", 0x0, 0x3, 1⟩, ⟨"BX_BEGIN", 0x1, 0xF, 2⟩,
    ⟨"BX_IGN_IDLE_END", 0x2, 0xF, 2⟩, ⟨"BX_IGN_IDLE_TMO", 0x3, 0xF, 2⟩,
    ⟨"BX_IGN_STARTED_START", 0x5, 0xF, 2⟩, ⟨"BX_BOUND", 0x6, 0xF, 2⟩,
    ⟨"BX_IGN_STARTED_TMO", 0x7, 0xF, 2⟩, ⟨"BX_NEXT", 0x9, 0xF, 2⟩,
    ⟨"BX_IGN_BOUNDED_END", 0xA, 0xF, 2⟩, ⟨"BX_FINAL", 0xB, 0xF, 2⟩ ]

/-- The rows of format FLUSH that a count selects, in priority order (FLUSH_CLEAR is not selected). -/
def flushRows : List Row :=
  [ ⟨"FLUSH_EMPTY", 0x00, 0x1F, 0⟩, ⟨"FLUSH_FRAME", 0x10, 0x1F, 0⟩, ⟨"FLUSH_BADLEN", 0x00, 0x00, 1⟩ ]

/-- The row of format QUALIFY: nothing is selected. -/
def qualifyRows : List Row := [⟨"QUALIFY", 0x0, 0x0, 0⟩]

/-- The rows of format DATAPATH that BIDIR selects. -/
def cksumRows : List Row := [⟨"CKSUM_STD", 0x0, 0x1, 0⟩, ⟨"CKSUM_BIDIR", 0x1, 0x1, 0⟩]

/-- The rows an encoded word is matched against: those of its format. -/
def Code.rows : Code → List Row
  | .host _ => hostRows
  | .wait _ => waitRows
  | .qualify _ => qualifyRows
  | .bx .. => bxRows
  | .flush _ => flushRows
  | .cksum .. => cksumRows

/-- The number a word's row is matched on: the command word, or the selector without its operands. -/
def Code.selector : Code → Nat
  | .host w => w.toNat
  | .wait sel => sel.toNat
  | .qualify sel => sel.toNat
  | .bx sel _ => sel.toNat
  | .flush sel => sel.toNat
  | .cksum sel _ => sel.toNat

end Sys2Proof
end

