-- ==== Sys2Proof/Machine/Fetch.lean ====
section
/-! DEFINITION. What a step takes from the host's input sequence (60 R122), and how a word is put where
the next step takes it. -/

namespace Sys2Proof.Machine

/-- What the step finds. -/
inductive Fetched where
  /-- No input waits: the block does nothing and holds its state (60 R124). -/
  | idle (s : State)
  /-- The reset input (70 R125). -/
  | resetLine (s : State)
  /-- A command in the reserved BitExtractor state bx = 11 (42 R89, 60 R111). -/
  | reserved
  /-- A command, decoded, and the state in which it runs. -/
  | command (i : Instr) (s : State)
deriving DecidableEq, Repr

/-- Take the oldest input. The ports are undriven first: rdata is driven only in a CFGR step (10_state
R29). A command with bx = 11 is not run: "any step in it" is a fault (42 R89; log entry 12). -/
def fetch (s : State) : Fetched :=
  match s.input with
  | [] => .idle s.undriven
  | .resetLine :: rest => .resetLine { State.reset with input := rest }
  | .command w :: rest =>
    if s.bx = 3#2 then .reserved else .command (decodeHost w) { s.undriven with input := rest }

/-- Issue a command word ahead of the inputs already waiting. -/
def State.issue (w : CommandWord) (s : State) : State := { s with input := .command w :: s.input }

/-- The state in which the next SAMPLE's step performs the BitExtractor operation of selector
{bx, qev}, for the host's question about the table's rows (log entry 7): RUNNING after its reference
sample, bx as given, and prev, idle and TIMEOUT such that the sample issued qualifies as qev. -/
def State.arrangeBx (bx qev : BitVec 2) (s : State) : State :=
  let cond := qualify qev (bidir s)
  let level := if cond = condRise then true else if cond = condFall then false else s.prev
  let armed : State := { s with
    run := .running, prevValid := true, bx := bx
    prev := if cond = condRise then false else if cond = condFall then true else s.prev
    timeout :=
      if cond = condInactive then s.idle + 1#32
      else if cond = condNone ∧ timeoutDue s then s.timeout + 1#32
      else s.timeout }
  armed.issue (commandWord 4#4 0#4 (if level then 1#32 else 0#32))

/-- The state in which the next SAMPLE's step reaches a frame boundary with count `n` after its APPEND:
Bounded, a timeout, and one bit fewer buffered (none fewer at the saturated 31). -/
def State.arrangeFlush (n : BitVec 5) (s : State) : State :=
  let t := s.arrangeBx bxBounded qevTmo
  { t with bcnt := if n = Config.countMax then n else n - 1#5 }

/-- Arrange that the next step runs the instruction `decodeBits` reads from `nbits` bits of value `w`:
a command is issued; a selector's operation is performed by the SAMPLE that is issued; bits that are no
word change nothing. -/
def State.arrange (nbits w : Nat) (s : State) : State :=
  match codeOfBits nbits w with
  | .ok (.host c) => s.issue c
  | .ok (.bx sel _) => s.arrangeBx (sel.extractLsb' 2 2) (sel.extractLsb' 0 2)
  | .ok (.flush sel) => s.arrangeFlush sel
  | .ok (.wait _) => s
  | .ok (.qualify _) => s
  | .ok (.cksum ..) => s
  | .error _ => s

end Sys2Proof.Machine
end

