-- ==== Sys2Proof/Machine/Step.lean ====
section
/-! DEFINITION. One step: the processing of one host input (00_scope R9, 40 R59). -/

namespace Sys2Proof.Machine

/-- One step of the block. -/
def step (s : State) : Host.Outcome State Fault Refusal :=
  match fetch s with
  | .idle t => .next t
  | .resetLine t => .next t
  | .reserved => .fault .reservedBxState
  | .command i t => exec i t

/-- `s` with the instruction of those bits where the next step takes it (log entries 1 and 7). -/
def State.withFetchWord (s : State) (nbits w : Nat) : State := s.arrange nbits w

end Sys2Proof.Machine
end

