-- ==== Sys2Proof/Safety.lean ====
section
/-! DEFINITION. What the claims speak of: legal events, the invariant of the block's state, the source's
unbounded bit buffer, and a run's observation. -/

namespace Sys2Proof.Safety

open Sys2Proof.Machine

/-- A legal event record: a non-empty span, a category that is not reserved, and the payload R57 gives the
category (30 R57, 60 R112). -/
def EventLegal (e : Event) : Prop :=
  e.start.toNat < e.stop.toNat ∧
  ((e.cat = 0#3 ∧ e.payload.toNat ≤ 1) ∨
   (e.cat = 1#3 ∧ e.payload.toNat ≤ 47) ∨
   (e.cat = 2#3 ∧ 48 ≤ e.payload.toNat ∧ e.payload.toNat ≤ 2047) ∨
   (e.cat = 3#3 ∧ e.payload.toNat ≤ 255) ∨
   (e.cat = 4#3 ∧ (e.payload.toNat = 1 ∨ e.payload.toNat = 2)))

/-- The active level (00_scope, glossary): 1 in standard mode, 0 in bidirectional mode. -/
def activeLevel (s : State) : Bool := !(s.ctrl.getLsbD 0)

/-- The datapath as START leaves it (40 R64). -/
structure DatapathClear (s : State) : Prop where
  prev : s.prev = false
  idle : s.idle = 0#32
  idx : s.idx = 0#64
  bx : s.bx = 0#2
  pcStart : s.pcStart = 0#64
  pcEnd : s.pcEnd = 0#64

/-- The bit buffer as START and FLUSH_CLEAR leave it (43 R97). -/
structure BufferClear (s : State) : Prop where
  shift : s.shift = 0#16
  bcnt : s.bcnt = 0#5
  firstStart : s.firstStart = 0#64
  nibStart : s.nibStart = 0#64
  lastNext : s.lastNext = 0#64

/-- The configuration and run-control registers: CTRL's reserved bits (10 R12), the fault codes and when
they stand (R17, R18), PERIOD and TIMEOUT (R15, R16, 40 R63). -/
structure ControlInv (s : State) : Prop where
  ctrl_reserved : s.ctrl.toNat < 8
  fault_code : s.fault.toNat ≤ 2
  fault_iff : s.fault ≠ 0#4 ↔ s.run = .faulted
  timeout_eq : s.timeout.toNat = 3 * s.period.toNat
  period_frozen : s.run = .running → s.period.toNat = nominalPeriod s.samplerate (rate s)
  period_live : s.run = .running ∨ s.run = .exhausted → 1 ≤ s.period.toNat ∧ s.period.toNat ≤ 28647
  period_dead : s.run = .idle ∨ s.run = .faulted → s.period.toNat = 0
  no_sample : s.run = .idle ∨ s.run = .faulted → s.prevValid = false

/-- The EdgeWaiter and the PulseCandidate (10 R21, R22, R24, 42 R90). -/
structure PulseInv (s : State) : Prop where
  fresh : s.prevValid = false → DatapathClear s
  idle_lt : s.prevValid = true → s.idle.toNat < s.timeout.toNat
  idle_le : s.idle.toNat ≤ s.idx.toNat
  bx_legal : s.bx ≠ 3#2
  started : s.bx = 1#2 → s.pcStart.toNat ≤ s.idx.toNat
  started_level : s.run = .running → s.bx = 1#2 → s.prev = activeLevel s
  bounded : s.bx = 2#2 → s.pcStart.toNat < s.pcEnd.toNat
  bounded_idle : s.bx = 2#2 → s.idx.toNat = s.pcEnd.toNat + s.idle.toNat
  bounded_level : s.run = .running → s.bx = 2#2 → s.prev = !activeLevel s

/-- The bit buffer (10 R26, R27, 43 R98). -/
structure BufferInv (s : State) : Prop where
  idle_empty : s.bx = 0#2 → s.bcnt = 0#5
  empty : s.bcnt = 0#5 → BufferClear s
  span : s.bcnt ≠ 0#5 → s.firstStart.toNat < s.lastNext.toNat
  contiguous : s.bcnt ≠ 0#5 → s.lastNext = s.pcStart
  nibble : 13 ≤ s.bcnt.toNat → s.firstStart.toNat < s.nibStart.toNat ∧ s.nibStart.toNat < s.lastNext.toNat
  no_nibble : s.bcnt.toNat < 13 → s.nibStart = 0#64

/-- The invariant of the block: what holds of every state a run reaches, whatever the host sends. -/
structure Inv (s : State) : Prop where
  control : ControlInv s
  pulse : PulseInv s
  buffer : BufferInv s
  events_legal : ∀ e ∈ s.events, EventLegal e

/-- What a model that checks one run takes as the run's fault outcome (60 R110). -/
def runFaulted (s : State) : Bool := decide (s.run = .faulted)

/-- A run's observation (70 R135): the records appended since its START, when `since` records stood, and
the final STATUS. -/
def observe (since : Nat) (s : State) : List Event × Reg := (s.events.drop since, statusWord s)

/-! ### The source's unbounded bit buffer (10_state R28) -/

/-- The registers of R25 to R27 hold what the source's buffer `bits`, oldest bit first, is read for. -/
structure Represents (bits : List DecodedBit) (s : State) : Prop where
  count : s.bcnt.toNat = min bits.length 31
  values : ∀ j, j < 16 → s.shift.getLsbD j = (bits.reverse[j]?.map DecodedBit.value).getD false
  first : s.firstStart = (bits[0]?.map DecodedBit.start).getD 0#64
  nibble : s.nibStart = (bits[12]?.map DecodedBit.start).getD 0#64
  last : s.lastNext = (bits.getLast?.map DecodedBit.next).getD 0#64

/-- The number that bits denote, "MSB-first" (00_scope R7). -/
def msbFirst (bits : List Bool) : Nat := bits.foldl (fun n b => 2 * n + b.toNat) 0

/-- The source's checksum of a 12-bit value (44 R100, R101), on numbers. -/
def sourceChecksum (bidir : Bool) (v : Nat) : Nat :=
  let x := (v ^^^ v / 16 ^^^ v / 256) % 16
  if bidir then 15 - x else x

/-- The events the source's contracts give a boundary over an unbounded buffer (43, introduction and R95,
R96; 44, introduction; 45, introduction): nothing for an empty buffer, the frame's events for exactly 16
bits, else one InvalidFrameLength. -/
def sourceBoundary (bidir : Bool) (bits : List DecodedBit) : List Event :=
  let values := bits.map DecodedBit.value
  let payload := msbFirst (values.take 11)
  let nibble := msbFirst (values.drop 12)
  let expected := sourceChecksum bidir (msbFirst (values.take 12))
  let first := (bits[0]?.map DecodedBit.start).getD 0#64
  let mid := (bits[12]?.map DecodedBit.start).getD 0#64
  let last := (bits.getLast?.map DecodedBit.next).getD 0#64
  if bits.length = 0 then []
  else if bits.length = 16 then
    [ ⟨first, mid, if payload < 48 then 1#3 else 2#3, BitVec.ofNat 16 payload⟩,
      ⟨mid, last, 3#3, BitVec.ofNat 16 (16 * expected + nibble)⟩ ]
      ++ (if expected = nibble then [] else [⟨mid, last, 4#3, 2#16⟩])
  else [⟨first, last, 4#3, 1#16⟩]

/-- APPEND of the bits in order, stopping at the first fault or refusal. -/
def appendAll : List DecodedBit → State → Out
  | [], s => .next s
  | b :: bs, s =>
    match exec (.append b) s with
    | .next t => appendAll bs t
    | .fault r => .fault r
    | .refused r => .refused r

/-- The DecodedBit of a pulse candidate that the trailing edge `next` completes, with the source's rational
test as the exact integer comparison of 42 R77. -/
def completedBit (next : Index) (s : State) : DecodedBit where
  start := s.pcStart
  stop := s.pcEnd
  next := next
  value := decide (2 * (s.pcEnd.toNat - s.pcStart.toNat) > next.toNat - s.pcStart.toNat)

/-- The Bit event of 42 R78. -/
def cellEvent (b : DecodedBit) : Event := ⟨b.start, b.next, 0#3, if b.value then 1#16 else 0#16⟩

/-- What the source's unbounded buffer and the event stream become in a step of `s` (43, introduction; 42 R76,
R82, R83; 40 R64; 70 R125): a reset empties both; a START outside RUNNING empties the buffer; in a run with a
bounded pulse the next start edge completes a bit, which is reported and joins the buffer, and the timeout
completes one at `pc_start + N`, which is reported and joins the buffer, whose boundary is then reported and
empties it; anything else leaves both. Stated for states of the invariant: there bx = Bounded means that the
line is inactive, so a sample at the active level is the start edge. -/
def sourceStep (bits : List DecodedBit) (s : State) : List DecodedBit × List Event :=
  match s.input with
  | [] => (bits, s.events)
  | .resetLine :: _ => ([], [])
  | .command w :: _ =>
    if decodeHost w = .start ∧ s.run ≠ .running then ([], s.events)
    else if decodeHost w = .sample (activeLevel s) ∧ s.run = .running ∧ s.bx = 2#2 then
      let b := completedBit (s.idx + 1#64) s
      (bits ++ [b], s.events ++ [cellEvent b])
    else if decodeHost w = .sample (!activeLevel s) ∧ s.run = .running ∧ s.bx = 2#2
        ∧ s.idle.toNat + 1 = s.timeout.toNat then
      let b := completedBit (s.pcStart + s.period.setWidth 64) s
      ([], s.events ++ cellEvent b :: sourceBoundary (s.ctrl.getLsbD 0) (bits ++ [b]))
    else (bits, s.events)

/-! ### A frame's report, written from the rules alone -/

/-- The events of a 16-bit frame word `f` (43 R93, R95; 44 R99 to R103; 45 R105, R106): Command or
Throttle over [first, nib], Checksum over [nib, last], and ChecksumMismatch where the nibbles differ. -/
def frameReport (bidir : Bool) (f : BitVec 16) (first nib last : Index) : List Event :=
  let p := f.extractLsb' 5 11
  let v := f.extractLsb' 4 12
  let nibble := f.extractLsb' 0 4
  let fold := v.extractLsb' 8 4 ^^^ v.extractLsb' 4 4 ^^^ v.extractLsb' 0 4
  let expected := if bidir then ~~~fold else fold
  [ ⟨first, nib, if p.toNat < 48 then 1#3 else 2#3, p.setWidth 16⟩,
    ⟨nib, last, 3#3, 0#8 ++ expected ++ nibble⟩ ]
    ++ (if expected = nibble then [] else [⟨nib, last, 4#3, 2#16⟩])

/-! ### Sequences of samples -/

/-- SAMPLE commands for the levels, in order, stopping at the first fault or refusal. -/
def feed : List Bool → State → Out
  | [], s => .next s
  | l :: ls, s =>
    match exec (.sample l) s with
    | .next t => feed ls t
    | .fault r => .fault r
    | .refused r => .refused r

end Sys2Proof.Safety
end

