-- ==== Sys2Proof/Certificates/Slice0/Obligations.lean ====
section
/-! DEFINITION. The statements for the provers. Each docstring names the rule it formalises. Where a statement
rests on the model's own fields `result` or `input` (log entries 5 and 1) it says so. -/

open Sys2Proof Sys2Proof.Machine Sys2Proof.Safety

/-! ## Encoding -/

/-- Decoding an encoded well-formed instruction gives it back, for every row that has an encoded word; the
rows that have none are exactly the seven the step rules call (30 R53). -/
def Obligations.DecodeOfEncodeIsTheInstruction : Prop :=
  (∀ (i : Instr) (c : Code), i.wellFormed = true → encode i = some c → decode c = i) ∧
  (∀ i : Instr, encode i = none ↔
    i.mnemonic ∈ ["FLUSH_CLEAR", "BITVAL", "APPEND", "FRAME_FIELDS", "CKSUM_FOLD", "CKSUM_CMP", "CLASSIFY"])

/-- The example words of 30 R58, the reserved words of 95 H16, and selectors written out from 30 R49 to R53,
decode to the operations they stand for. A sanity statement. -/
def Obligations.SpecWordsDecodeToTheirInstructions : Prop :=
  decodeHost 0x1000000003#40 = .cfgw 0#4 3#32 ∧ decodeHost 0x11000DBBA0#40 = .cfgw 1#4 900000#32 ∧
  decodeHost 0x2200000000#40 = .cfgr 2#4 ∧ decodeHost 0x3000000000#40 = .start ∧
  decodeHost 0x4000000001#40 = .sample true ∧ decodeHost 0x4000000000#40 = .sample false ∧
  decodeHost 0x5000000000#40 = .endStream ∧ decodeHost 0x0000000000#40 = .reservedZero 0#4 0#32 ∧
  decodeHost 0xFFFFFFFFFF#40 = .reservedHigh 7#3 15#4 0xFFFFFFFF#32 ∧
  decodeWait 0b1011#4 = .edgeRise false ∧ decodeWait 0b1110#4 = .edgeFall true ∧
  decodeBx 0b1001#4 8#64 = .bxNext 8#64 ∧ decodeBx 0b1011#4 0#64 = .bxFinal ∧
  decodeFlush 0b10000#5 = .flushFrame ∧ decodeFlush 0b01001#5 = .flushBadlen 9#5 ∧
  decodeQualify 0b110#3 = .qualify true 2#2 ∧ decodeCksum 1#1 20#12 = .cksumBidir 20#12

/-- 30 R48: operand assembly of the host commands; the fields a command does not use are ignored whatever
their value. -/
def Obligations.UnusedCommandFieldsAreIgnored : Prop :=
  ∀ (addr : BitVec 4) (data : Reg),
    decodeHost (1#4 ++ addr ++ data) = .cfgw addr data ∧
    decodeHost (2#4 ++ addr ++ data) = .cfgr addr ∧
    decodeHost (3#4 ++ addr ++ data) = .start ∧
    decodeHost (4#4 ++ addr ++ data) = .sample (data.getLsbD 0) ∧
    decodeHost (5#4 ++ addr ++ data) = .endStream

/-- Every 40-bit word matches exactly one HOST row of the opcode table, and the decoder gives that row. -/
def Obligations.EveryCommandWordMatchesOneHostRow : Prop :=
  ∀ w : CommandWord,
    (hostRows.filter (fun r => r.admits w.toNat)).map Row.mnemonic = [(decodeHost w).mnemonic]

/-- 30 R49: the WAIT patterns are disjoint and cover every selector value, and a SAMPLE in RUNNING performs
the one operation whose pattern its selector {v,t,e,s} matches. -/
def Obligations.SamplePerformsTheWaitRowItsSelectorMatches : Prop :=
  (∀ sel : BitVec 4,
    (waitRows.filter (fun r => r.admits sel.toNat)).map Row.mnemonic = [(decodeWait sel).mnemonic]) ∧
  (∀ (level : Bool) (s : State), s.run = .running →
    exec (.sample level) s =
      exec (decodeWait (BitVec.ofBool s.prevValid
        ++ BitVec.ofBool (decide (s.idle.toNat + 1 = s.timeout.toNat))
        ++ BitVec.ofBool (decide (s.prev ≠ level)) ++ BitVec.ofBool level)) s)

/-- 30 R51 with 41 R67: a SAMPLE in RUNNING after the reference sample writes the EdgeWaiter's registers,
maps its condition through the polarity (R50), and performs on them the first BX row, in priority order, that
{bx,qev} matches. The count past 2^32 - 1 is open (log entry 10): nothing is said of it. -/
def Obligations.SamplePerformsTheFirstBxRowItsSelectorMatches : Prop :=
  (∀ (sel : BitVec 4) (i : Index),
    ((bxRows.filter (fun r => r.admits sel.toNat)).map Row.mnemonic).head? =
      some (decodeBx sel i).mnemonic) ∧
  (∀ (level : Bool) (s : State), s.run = .running → s.prevValid = true → s.idx ≠ BitVec.allOnes 64 →
    let cond : BitVec 2 :=
      if s.prev ≠ level then (if level then 1#2 else 2#2)
      else if s.idle.toNat + 1 = s.timeout.toNat then 3#2 else 0#2
    let qev : BitVec 2 :=
      if s.ctrl.getLsbD 0 then (if cond = 1#2 then 2#2 else if cond = 2#2 then 1#2 else cond) else cond
    ∃ idle' : Reg,
      (cond ≠ 0#2 → idle' = 0#32) ∧
      (cond = 0#2 → s.idle.toNat + 1 < 2 ^ 32 → idle'.toNat = s.idle.toNat + 1) ∧
      exec (.sample level) s =
        exec (decodeBx (s.bx ++ qev) (s.idx + 1#64))
          { s with idx := s.idx + 1#64, prev := level, idle := idle' })

/-- 30 R56: the 147-bit layout of an event record holds every field at its place, and the record and the
word give each other back. -/
def Obligations.EventWordHoldsEveryField : Prop :=
  (∀ e : Event,
    e.toWord.extractLsb' 83 64 = e.start ∧ e.toWord.extractLsb' 19 64 = e.stop ∧
    e.toWord.extractLsb' 16 3 = e.cat ∧ e.toWord.extractLsb' 0 16 = e.payload ∧
    Event.ofWord e.toWord = e) ∧
  (∀ w : BitVec 147, (Event.ofWord w).toWord = w)

/-! ## The step -/

/-- 40 R59: a step decodes one command word and performs its instruction; around it the model takes the
word from `input` and undrives the ports (log entries 1 and 4). With bx = 11 the step faults:
ReservedBxStateFaults. -/
def Obligations.StepRunsTheDecodedCommand : Prop :=
  ∀ (s : State) (w : CommandWord) (rest : List HostInput), s.input = .command w :: rest → s.bx ≠ 3#2 →
    step s = exec (decodeHost w) { s with input := rest, rdata := none, result := none }

/-- With no command waiting a step holds every register and the event stream (60 R124; log entry 2). -/
def Obligations.StepWithoutCommandHoldsTheState : Prop :=
  ∀ s : State, s.input = [] → step s = .next { s with rdata := none, result := none }

/-- 70 R125 and 10 R32: the reset input puts every register to its reset value, in any state, and empties
the event stream; the inputs still waiting stay (log entry 3). -/
def Obligations.ResetInputRestoresResetValues : Prop :=
  ∀ (s : State) (rest : List HostInput), s.input = .resetLine :: rest →
    ∃ t, step s = .next t ∧
      t.ctrl = 0#32 ∧ t.samplerate = 0#32 ∧ t.run = .idle ∧ t.fault = 0#4 ∧ t.period = 0#32 ∧
      t.timeout = 0#32 ∧ t.prevValid = false ∧ t.prev = false ∧ t.idle = 0#32 ∧ t.idx = 0#64 ∧
      t.bx = 0#2 ∧ t.pcStart = 0#64 ∧ t.pcEnd = 0#64 ∧ t.shift = 0#16 ∧ t.bcnt = 0#5 ∧
      t.firstStart = 0#64 ∧ t.nibStart = 0#64 ∧ t.lastNext = 0#64 ∧ t.events = [] ∧ t.rdata = none ∧
      t.input = rest

/-- 10 R32: the values of State.reset. -/
def Obligations.ResetStateHoldsTheSpecsValues : Prop :=
  State.reset.ctrl = 0#32 ∧ State.reset.samplerate = 0#32 ∧ State.reset.run = .idle ∧
  State.reset.fault = 0#4 ∧ State.reset.period = 0#32 ∧ State.reset.timeout = 0#32 ∧
  State.reset.prevValid = false ∧ State.reset.prev = false ∧ State.reset.idle = 0#32 ∧
  State.reset.idx = 0#64 ∧ State.reset.bx = 0#2 ∧ State.reset.pcStart = 0#64 ∧
  State.reset.pcEnd = 0#64 ∧ State.reset.shift = 0#16 ∧ State.reset.bcnt = 0#5 ∧
  State.reset.firstStart = 0#64 ∧ State.reset.nibStart = 0#64 ∧ State.reset.lastNext = 0#64 ∧
  State.reset.events = [] ∧ State.reset.rdata = none

/-! ## Host commands -/

/-- 40 R60: CFGW, with its encoding; SAMPLERATE = 0 may be written and makes the next START raise
SampleRateMissing. -/
def Obligations.CfgwWritesItsRegisterOutsideRunning : Prop :=
  ∀ (addr : BitVec 4) (data : Reg) (s : State),
    decodeHost (1#4 ++ addr ++ data) = .cfgw addr data ∧
    (s.run = .running → exec (.cfgw addr data) s = .next s) ∧
    (s.run ≠ .running → addr = 0#4 →
      exec (.cfgw addr data) s = .next { s with ctrl := data &&& 7#32 }) ∧
    (s.run ≠ .running → addr = 1#4 → exec (.cfgw addr data) s = .next { s with samplerate := data }) ∧
    (s.run ≠ .running → 2 ≤ addr.toNat → exec (.cfgw addr data) s = .next s) ∧
    (s.run ≠ .running → ∃ t u : State, exec (.cfgw 1#4 0#32) s = .next t ∧ exec .start t = .next u ∧
      u.run = .faulted ∧ u.fault = 1#4)

/-- 40 R61 and 10 R14: CFGR responds in every run state, changes nothing but rdata, and STATUS reads its
fields from their registers. -/
def Obligations.CfgrRespondsWithTheRegister : Prop :=
  ∀ (addr : BitVec 4) (data : Reg) (s : State), ∃ v : Reg,
    decodeHost (2#4 ++ addr ++ data) = .cfgr addr ∧
    exec (.cfgr addr) s = .next { s with rdata := some v } ∧
    (addr = 0#4 → v = s.ctrl) ∧ (addr = 1#4 → v = s.samplerate) ∧
    (addr = 2#4 →
      v.extractLsb' 0 2 = (match s.run with
        | .idle => 0#2 | .running => 1#2 | .faulted => 2#2 | .exhausted => 3#2) ∧
      v.extractLsb' 2 2 = 0#2 ∧ v.extractLsb' 4 4 = s.fault ∧ v.extractLsb' 8 2 = s.bx ∧
      v.extractLsb' 10 5 = s.bcnt ∧ v.extractLsb' 15 17 = 0#17) ∧
    (addr = 3#4 → v = s.period) ∧ (addr = 4#4 → v = s.timeout) ∧ (5 ≤ addr.toNat → v = 0#32)

/-- 20 R38: both accesses are idempotent: issued twice in a row they give the state and response of once. -/
def Obligations.RegisterAccessesAreIdempotent : Prop :=
  (∀ (addr : BitVec 4) (s t : State), exec (.cfgr addr) s = .next t → exec (.cfgr addr) t = .next t) ∧
  (∀ (addr : BitVec 4) (data : Reg) (s t : State),
    exec (.cfgw addr data) s = .next t → exec (.cfgw addr data) t = .next t)

/-- 10 R31: a CFGR's response depends on the configuration registers, run, fault, bx and bcnt alone; no
hidden register shows in it. -/
def Obligations.HiddenStateIsNotReadable : Prop :=
  ∀ (addr : BitVec 4) (s t : State),
    s.ctrl = t.ctrl → s.samplerate = t.samplerate → s.run = t.run → s.fault = t.fault →
    s.period = t.period → s.timeout = t.timeout → s.bx = t.bx → s.bcnt = t.bcnt →
    ∃ v : Reg, exec (.cfgr addr) s = .next { s with rdata := some v } ∧
      exec (.cfgr addr) t = .next { t with rdata := some v }

/-- 40 R62: a START in RUNNING is ignored. -/
def Obligations.StartInRunningIsIgnored : Prop :=
  ∀ s : State, s.run = .running → exec .start s = .next s

/-- 40 R62, 60 R108, R109: a START that fails a check. SAMPLERATE = 0 gives SampleRateMissing, also where N
would be 0; else N = 0 gives PeriodZero. The datapath is cleared, PERIOD and TIMEOUT become 0, the code and
FAULTED are recorded, and nothing else changes. -/
def Obligations.FailedStartTakesTheFault : Prop :=
  ∀ (s : State) (m : Nat), s.run ≠ .running →
    m = [667, 333, 167, 83].getD (s.ctrl.extractLsb' 1 2).toNat 0 →
    s.samplerate.toNat * m / 100000000 = 0 →
    exec .start s = .next { s with
      fault := (if s.samplerate = 0#32 then 1#4 else 2#4), run := .faulted
      period := 0#32, timeout := 0#32
      prevValid := false, prev := false, idle := 0#32, idx := 0#64, bx := 0#2, pcStart := 0#64
      pcEnd := 0#64, shift := 0#16, bcnt := 0#5, firstStart := 0#64, nibStart := 0#64, lastNext := 0#64 }

/-- 40 R63, R64, 00 R5: a START that passes its checks: PERIOD and TIMEOUT computed exactly, the datapath
cleared, fault 0, RUNNING; and R63's bounds. -/
def Obligations.PassingStartBeginsARun : Prop :=
  ∀ (s : State) (m n : Nat), s.run ≠ .running →
    m = [667, 333, 167, 83].getD (s.ctrl.extractLsb' 1 2).toNat 0 →
    n = s.samplerate.toNat * m / 100000000 → n ≠ 0 →
    n ≤ 28647 ∧ ∃ t : State, exec .start s = .next t ∧
      t = { s with
        period := t.period, timeout := t.timeout, fault := 0#4, run := .running
        prevValid := false, prev := false, idle := 0#32, idx := 0#64, bx := 0#2, pcStart := 0#64
        pcEnd := 0#64, shift := 0#16, bcnt := 0#5, firstStart := 0#64, nibStart := 0#64
        lastNext := 0#64 } ∧
      t.period.toNat = n ∧ t.timeout.toNat = 3 * n

/-- 70 R126, steps 1 to 3: from any state that is not RUNNING, writing SAMPLERATE and CTRL and issuing START
gives RUNNING exactly when the configuration's N is not 0, and FAULTED otherwise. -/
def Obligations.BootSequenceBeginsARunOrFaults : Prop :=
  ∀ (s a b : State) (sr : Reg) (r : BitVec 2) (d : Bool), s.run ≠ .running →
    exec (.cfgw 1#4 sr) s = .next a →
    exec (.cfgw 0#4 (0#29 ++ r ++ BitVec.ofBool d)) a = .next b →
    ∃ t : State, exec .start b = .next t ∧ t.samplerate = sr ∧ t.ctrl.getLsbD 0 = d ∧
      t.ctrl.extractLsb' 1 2 = r ∧
      (t.run = .running ↔ 100000000 ≤ sr.toNat * [667, 333, 167, 83].getD r.toNat 0) ∧
      (t.run = .faulted ↔ sr.toNat * [667, 333, 167, 83].getD r.toNat 0 < 100000000) ∧
      (sr = 0#32 → t.fault = 1#4)

/-- 40 R66: END in RUNNING enters EXHAUSTED and changes nothing else; elsewhere it has no effect. -/
def Obligations.EndExhaustsARunningStream : Prop :=
  (∀ (addr : BitVec 4) (data : Reg), decodeHost (5#4 ++ addr ++ data) = .endStream) ∧
  ∀ s : State, (s.run = .running → exec .endStream s = .next { s with run := .exhausted }) ∧
    (s.run ≠ .running → exec .endStream s = .next s)

/-- 30 R52: a reserved OP performs no operation. -/
def Obligations.ReservedOpsDoNothing : Prop :=
  ∀ (addr : BitVec 4) (data : Reg) (o1 : BitVec 1) (o3 : BitVec 3) (s : State),
    exec (.reservedZero addr data) s = .next s ∧ exec (.reservedSix o1 addr data) s = .next s ∧
    exec (.reservedHigh o3 addr data) s = .next s

/-- 40 R65: a SAMPLE outside RUNNING has no effect; in RUNNING, after the reference sample, it completes,
advances idx by one, records the level, and leaves the configuration and run-control registers and the ports. -/
def Obligations.SampleConsumesOneSample : Prop :=
  ∀ (level : Bool) (s : State),
    (s.run ≠ .running → exec (.sample level) s = .next s) ∧
    (s.run = .running → s.prevValid = true → s.idx ≠ BitVec.allOnes 64 → s.bx ≠ 3#2 →
      ∃ t : State, exec (.sample level) s = .next t ∧ t.idx = s.idx + 1#64 ∧ t.prev = level ∧
        t.prevValid = true ∧ t.ctrl = s.ctrl ∧ t.samplerate = s.samplerate ∧ t.run = s.run ∧
        t.fault = s.fault ∧ t.period = s.period ∧ t.timeout = s.timeout ∧ t.rdata = s.rdata ∧
        t.result = s.result ∧ t.input = s.input)

/-- 93 X1, 70 R132: the sample after index 2^64 - 1 is refused, never wrapped. -/
def Obligations.SamplePastTheLastIndexIsRefused : Prop :=
  ∀ (level : Bool) (s : State), s.run = .running → s.prevValid = true → s.idx = BitVec.allOnes 64 →
    exec (.sample level) s = .refused .indexOverflow

/-- 10 R17: which commands change the run state, and to what; IDLE is entered by none. -/
def Obligations.OnlyStartAndEndChangeTheRunState : Prop :=
  ∀ (w : CommandWord) (s t : State), exec (decodeHost w) s = .next t → t.run ≠ s.run →
    (decodeHost w = .start ∧ s.run ≠ .running ∧
      ((t.run = .running ∧ t.fault = 0#4) ∨ (t.run = .faulted ∧ (t.fault = 1#4 ∨ t.fault = 2#4)))) ∨
    (decodeHost w = .endStream ∧ s.run = .running ∧ t.run = .exhausted)

/-- 70 R128, 20 R44, 10 R18: a running decode keeps its configuration; PERIOD, TIMEOUT and fault are written
by START alone; CTRL and SAMPLERATE by CFGW alone. -/
def Obligations.RunningFreezesTheConfiguration : Prop :=
  ∀ (w : CommandWord) (s t : State), exec (decodeHost w) s = .next t →
    (s.run = .running → t.ctrl = s.ctrl ∧ t.samplerate = s.samplerate ∧ t.period = s.period ∧
      t.timeout = s.timeout ∧ t.fault = s.fault) ∧
    (decodeHost w ≠ .start → t.period = s.period ∧ t.timeout = s.timeout ∧ t.fault = s.fault) ∧
    ((∀ a d, decodeHost w ≠ .cfgw a d) → t.ctrl = s.ctrl ∧ t.samplerate = s.samplerate)

/-! ## EdgeWaiter -/

/-- 41 R68: REF_SAMPLE, and that the first SAMPLE of a run performs it. -/
def Obligations.ReferenceSampleIsNeverAnEdge : Prop :=
  (∀ (t e level : Bool) (s : State),
    exec (.refSample t e level) s =
      .next { s with prev := level, prevValid := true, idx := 0#64, idle := 0#32 }) ∧
  (∀ (level : Bool) (s : State), s.run = .running → s.prevValid = false →
    exec (.sample level) s = .next { s with prev := level, prevValid := true, idx := 0#64, idle := 0#32 })

/-- 41 R69: WAIT_NONE, and that a SAMPLE with no edge below the threshold performs it. -/
def Obligations.QuietSampleOnlyCounts : Prop :=
  ∀ (level : Bool) (s : State), s.idx ≠ BitVec.allOnes 64 → s.bx ≠ 3#2 → s.idle.toNat + 1 < 2 ^ 32 →
    exec (.waitNone level) s =
      .next { s with idx := s.idx + 1#64, prev := level, idle := s.idle + 1#32 } ∧
    (s.run = .running → s.prevValid = true → s.prev = level → s.idle.toNat + 1 < s.timeout.toNat →
      exec (.sample level) s =
        .next { s with idx := s.idx + 1#64, prev := level, idle := s.idle + 1#32 })

/-- 41 R70, R71, R72: EDGE_RISE, EDGE_FALL and TIMEOUT complete; each restarts the count and does what the
BitExtractor does with the qualified event; the configuration, run-control registers and ports stay. -/
def Obligations.WaitReturnsRestartTheCount : Prop :=
  ∀ (te level : Bool) (s : State), s.idx ≠ BitVec.allOnes 64 → s.bx ≠ 3#2 →
    ∀ (i : Instr) (l : Bool) (q : BitVec 2),
      ((i = .edgeRise te ∧ l = true ∧ q = if s.ctrl.getLsbD 0 then 2#2 else 1#2) ∨
       (i = .edgeFall te ∧ l = false ∧ q = if s.ctrl.getLsbD 0 then 1#2 else 2#2) ∨
       (i = .timeout level ∧ l = level ∧ q = 3#2)) →
      ∃ t : State, exec i s = .next t ∧
        exec (decodeBx (s.bx ++ q) (s.idx + 1#64))
          { s with idx := s.idx + 1#64, prev := l, idle := 0#32 } = .next t ∧
        t.idx = s.idx + 1#64 ∧ t.prev = l ∧ t.idle = 0#32 ∧ t.ctrl = s.ctrl ∧
        t.samplerate = s.samplerate ∧ t.run = s.run ∧ t.fault = s.fault ∧ t.period = s.period ∧
        t.timeout = s.timeout ∧ t.prevValid = s.prevValid ∧ t.rdata = s.rdata ∧ t.result = s.result ∧
        t.input = s.input

/-- 60 R115, point 3: an edge takes priority over a timeout due at the same sample. -/
def Obligations.EdgeWinsOverACoincidingTimeout : Prop :=
  ∀ (level : Bool) (s : State), s.run = .running → s.prevValid = true → s.prev ≠ level →
    s.idle.toNat + 1 = s.timeout.toNat →
    exec (.sample level) s = exec (if level then .edgeRise true else .edgeFall true) s

/-- 41 R72: on a line without edges `idle` counts the samples, nothing else happens, and the timeout fires
at the sample that makes the count TIMEOUT. -/
def Obligations.InactivityFiresAfterTimeoutQuietSamples : Prop :=
  ∀ (k : Nat) (s : State), s.run = .running → s.prevValid = true → s.bx ≠ 3#2 →
    s.idx.toNat + k < 2 ^ 64 → s.idle.toNat + k < s.timeout.toNat →
    ∃ t : State, feed (List.replicate k s.prev) s = .next t ∧
      t = { s with idx := t.idx, idle := t.idle } ∧
      t.idx.toNat = s.idx.toNat + k ∧ t.idle.toNat = s.idle.toNat + k ∧
      (s.idle.toNat + k + 1 = s.timeout.toNat →
        exec (.sample s.prev) t = exec (.timeout s.prev) t)

/-- 41 R74, point 5: the EdgeWaiter's registers after a SAMPLE depend only on the level, TIMEOUT and its own
registers. The count past 2^32 - 1 is covered too: it is one function of the count. -/
def Obligations.EdgeWaiterIgnoresTheOtherUnits : Prop :=
  ∀ (level : Bool) (s s' t t' : State),
    s.run = .running → s'.run = .running → s.prevValid = s'.prevValid → s.prev = s'.prev →
    s.idle = s'.idle → s.idx = s'.idx → s.timeout = s'.timeout →
    exec (.sample level) s = .next t → exec (.sample level) s' = .next t' →
    t.prevValid = t'.prevValid ∧ t.prev = t'.prev ∧ t.idle = t'.idle ∧ t.idx = t'.idx

/-- 30 R50, 41 R73: QUALIFY's table; the value is returned in the model's field `result` (log entry 5). -/
def Obligations.QualifyFollowsTheLinePolarity : Prop :=
  ∀ (b : Bool) (cond : BitVec 2) (s : State), ∃ q : BitVec 2,
    exec (.qualify b cond) s = .next { s with result := some (.qev q) } ∧
    (cond = 0#2 → q = 0#2) ∧ (cond = 3#2 → q = 3#2) ∧
    (cond = 1#2 → q = if b then 2#2 else 1#2) ∧ (cond = 2#2 → q = if b then 1#2 else 2#2)

/-! ## BitExtractor -/

/-- 42 R79, R84 to R88: the operations without effect. -/
def Obligations.UnlistedCombinationsChangeNothing : Prop :=
  ∀ (bx : BitVec 2) (s : State),
    exec (.bxNop bx) s = .next s ∧ exec .bxIgnIdleEnd s = .next s ∧ exec .bxIgnIdleTmo s = .next s ∧
    exec .bxIgnStartedTmo s = .next s ∧ exec .bxIgnStartedStart s = .next s ∧
    exec .bxIgnBoundedEnd s = .next s

/-- 42 R80: BX_BEGIN. -/
def Obligations.BxBeginRecordsTheStart : Prop :=
  ∀ (i : Index) (s : State), decodeBx 0b0001#4 i = .bxBegin i ∧
    exec (.bxBegin i) s = .next { s with pcStart := i, bx := 1#2 }

/-- 42 R81: BX_BOUND. -/
def Obligations.BxBoundRecordsTheEnd : Prop :=
  ∀ (i : Index) (s : State), decodeBx 0b0110#4 i = .bxBound i ∧
    exec (.bxBound i) s = .next { s with pcEnd := i, bx := 2#2 }

/-- 42 R82, with R77, R78 and 43 R91: BX_NEXT reports the bit over its whole cell, appends it, re-enters
Started, and signals no boundary whatever the count becomes. -/
def Obligations.BxNextReportsAndAppendsTheBit : Prop :=
  (∀ i : Index, decodeBx 0b1001#4 i = .bxNext i) ∧
  ∀ (i : Index) (s : State) (v : Bool),
    s.pcStart.toNat < s.pcEnd.toNat → s.pcStart.toNat < i.toNat →
    v = decide (2 * (s.pcEnd.toNat - s.pcStart.toNat) > i.toNat - s.pcStart.toNat) →
    exec (.bxNext i) s = .next { s with
      events := s.events ++ [⟨s.pcStart, i, 0#3, if v then 1#16 else 0#16⟩]
      shift := s.shift.extractLsb' 0 15 ++ BitVec.ofBool v
      firstStart := if s.bcnt = 0#5 then s.pcStart else s.firstStart
      nibStart := if s.bcnt = 12#5 then s.pcStart else s.nibStart
      lastNext := i
      bcnt := if s.bcnt = 31#5 then 31#5 else s.bcnt + 1#5
      pcStart := i, bx := 1#2 }

/-- 42 R83, with 43 R92, R95, R96, R97: BX_FINAL synthesizes the trailing edge, reports the bit, and the
boundary judges the buffer with it: a frame's report for 16 bits, else one InvalidFrameLength; the buffer is
cleared and the BitExtractor is Idle. -/
def Obligations.BxFinalReportsTheBitAndTheBoundary : Prop :=
  (∀ i : Index, decodeBx 0b1011#4 i = .bxFinal) ∧
  ∀ (s : State) (v : Bool) (nx : Index),
    s.pcStart.toNat < s.pcEnd.toNat → nx.toNat = s.pcStart.toNat + s.period.toNat →
    v = decide (2 * (s.pcEnd.toNat - s.pcStart.toNat) > s.period.toNat) →
    exec .bxFinal s = .next { s with
      events := s.events ++ ⟨s.pcStart, nx, 0#3, if v then 1#16 else 0#16⟩ ::
        (if s.bcnt = 15#5 then
          frameReport (s.ctrl.getLsbD 0) (s.shift.extractLsb' 0 15 ++ BitVec.ofBool v)
            s.firstStart s.nibStart nx
         else [⟨if s.bcnt = 0#5 then s.pcStart else s.firstStart, nx, 4#3, 1#16⟩])
      bx := 0#2, shift := 0#16, bcnt := 0#5, firstStart := 0#64, nibStart := 0#64, lastNext := 0#64 }

/-- 42 R89, 60 R111 point 2: BX_RESERVED faults; a step that takes a command with bx = 11 faults and picks no
transition, whatever the command; and so does the SAMPLE operation by itself, which performs BX_RESERVED. -/
def Obligations.ReservedBxStateFaults : Prop :=
  (∀ (q : BitVec 2) (i : Index), decodeBx (3#2 ++ q) i = .bxReserved q) ∧
  (∀ (q : BitVec 2) (s : State), exec (.bxReserved q) s = .fault .reservedBxState) ∧
  (∀ (s : State) (w : CommandWord) (rest : List HostInput), s.input = .command w :: rest → s.bx = 3#2 →
    step s = .fault .reservedBxState) ∧
  (∀ (level : Bool) (s : State), s.run = .running → s.prevValid = true → s.idx ≠ BitVec.allOnes 64 →
    s.bx = 3#2 → exec (.sample level) s = .fault .reservedBxState)

/-- 42 R90: under the invariant, a SAMPLE in RUNNING never meets a start edge in Started nor an end edge in
Bounded. -/
def Obligations.UnreachableCombinationsAreNeverSelected : Prop :=
  ∀ (level : Bool) (s : State), Inv s → s.run = .running → s.prev ≠ level →
    let qev : BitVec 2 := if level = activeLevel s then 1#2 else 2#2
    decodeBx (s.bx ++ qev) (s.idx + 1#64) ≠ .bxIgnStartedStart ∧
    decodeBx (s.bx ++ qev) (s.idx + 1#64) ≠ .bxIgnBoundedEnd

/-- 42 R77: BITVAL is the source's rational test `duty / period > 1/2`; returned in the model's field
`result` (log entry 5). Where `stop` or `next` lies before `start` the value is open (log entry 8), and the
operation completes. -/
def Obligations.BitvalIsTheRationalDutyTest : Prop :=
  ∀ (a b c : Index) (s : State), ∃ v : Bool,
    exec (.bitval a b c) s = .next { s with result := some (.bit v) } ∧
    (a.toNat < b.toNat → a.toNat < c.toNat →
      (v = true ↔ ((b.toNat : ℚ) - a.toNat) / ((c.toNat : ℚ) - a.toNat) > 1 / 2))

/-! ## FrameAssembler, ChecksumEngine, Classifier -/

/-- 43 R91: APPEND. -/
def Obligations.AppendShiftsCountsAndKeepsTheIndices : Prop :=
  ∀ (b : DecodedBit) (s : State),
    exec (.append b) s = .next { s with
      shift := s.shift.extractLsb' 0 15 ++ BitVec.ofBool b.value
      firstStart := if s.bcnt = 0#5 then b.start else s.firstStart
      nibStart := if s.bcnt = 12#5 then b.start else s.nibStart
      lastNext := b.next
      bcnt := if s.bcnt = 31#5 then 31#5 else s.bcnt + 1#5 }

/-- 10 R28, for APPEND: the registers keep representing the source's unbounded bit buffer. -/
def Obligations.AppendRefinesTheUnboundedBuffer : Prop :=
  ∀ (bits : List DecodedBit) (b : DecodedBit) (s : State), Represents bits s →
    ∃ t : State, exec (.append b) s = .next t ∧ Represents (bits ++ [b]) t

/-- 10 R28, for the frame boundary: whatever the source's unbounded buffer holds, BX_FINAL adds the Bit
event and exactly the events the source's contracts give that buffer with the final bit, and leaves registers
that represent the empty buffer. -/
def Obligations.BoundaryRefinesTheUnboundedBuffer : Prop :=
  ∀ (bits : List DecodedBit) (b : DecodedBit) (s : State), Represents bits s →
    b.start = s.pcStart → b.stop = s.pcEnd → b.start.toNat < b.stop.toNat →
    b.next.toNat = s.pcStart.toNat + s.period.toNat →
    b.value = decide (2 * (b.stop.toNat - b.start.toNat) > s.period.toNat) →
    ∃ t : State, exec .bxFinal s = .next t ∧ Represents [] t ∧ t.bx = 0#2 ∧
      t.events = s.events ++ ⟨b.start, b.next, 0#3, if b.value then 1#16 else 0#16⟩ ::
        sourceBoundary (s.ctrl.getLsbD 0) (bits ++ [b])

/-- 10 R25, 20 R36, 30 R54, 43 R93: sixteen APPENDs on an empty buffer complete and leave in `shift` the number
the bits denote MSB-first, and FRAME_FIELDS of it returns the numbers of the frame's bit ranges; the same holds
of every state whose registers represent sixteen bits. FRAME_FIELDS returns in the model's field `result` (log
entry 5). -/
def Obligations.ShiftHoldsTheFrameMsbFirst : Prop :=
  (∀ (bits : List DecodedBit) (s : State), BufferClear s → bits.length = 16 →
    ∃ (t : State) (r : FrameFields), appendAll bits s = .next t ∧
      exec (.frameFields t.shift) t = .next { t with result := some (.fields r) } ∧
      t.shift.toNat = msbFirst (bits.map DecodedBit.value) ∧
      r.payload11.toNat = msbFirst ((bits.map DecodedBit.value).take 11) ∧
      some r.telemetryFlag = (bits.map DecodedBit.value)[11]? ∧
      r.crcNibble.toNat = msbFirst ((bits.map DecodedBit.value).drop 12) ∧
      r.crcInput12.toNat = msbFirst ((bits.map DecodedBit.value).take 12)) ∧
  (∀ (bits : List DecodedBit) (s : State), Represents bits s → bits.length = 16 →
    s.shift.toNat = msbFirst (bits.map DecodedBit.value) ∧
    (frameFields s.shift).payload11.toNat = msbFirst ((bits.map DecodedBit.value).take 11) ∧
    some (frameFields s.shift).telemetryFlag = (bits.map DecodedBit.value)[11]? ∧
    (frameFields s.shift).crcNibble.toNat = msbFirst ((bits.map DecodedBit.value).drop 12) ∧
    (frameFields s.shift).crcInput12.toNat = msbFirst ((bits.map DecodedBit.value).take 12))

/-- 43 R93: FRAME_FIELDS; returned in the model's field `result` (log entry 5). -/
def Obligations.FrameFieldsAreTheFramesBits : Prop :=
  ∀ (f : BitVec 16) (s : State), ∃ r : FrameFields,
    exec (.frameFields f) s = .next { s with result := some (.fields r) } ∧
    r.payload11.toNat = f.toNat / 32 ∧ r.telemetryFlag = decide (f.toNat / 16 % 2 = 1) ∧
    r.crcNibble.toNat = f.toNat % 16 ∧ r.crcInput12.toNat = f.toNat / 16 ∧
    r.crcInput12.toNat = 2 * r.payload11.toNat + r.telemetryFlag.toNat

/-- 43 R94: FLUSH_EMPTY. -/
def Obligations.FlushEmptyReportsNothing : Prop :=
  decodeFlush 0#5 = .flushEmpty ∧ ∀ s : State, exec .flushEmpty s = .next s

/-- 43 R95 with 44 R103 and 45 R106: FLUSH_FRAME's events and nothing else. -/
def Obligations.FlushFrameReportsTheFrame : Prop :=
  decodeFlush 16#5 = .flushFrame ∧ ∀ s : State, exec .flushFrame s = .next { s with
    events := s.events ++ frameReport (s.ctrl.getLsbD 0) s.shift s.firstStart s.nibStart s.lastNext }

/-- 43 R96: FLUSH_BADLEN's one event and nothing else. -/
def Obligations.FlushBadlenReportsInvalidFrameLength : Prop :=
  ∀ (n : BitVec 5) (s : State),
    (n ≠ 0#5 → n ≠ 16#5 → decodeFlush n = .flushBadlen n) ∧
    exec (.flushBadlen n) s = .next { s with
      events := s.events ++ [⟨s.firstStart, s.lastNext, 4#3, 1#16⟩] }

/-- 43 R97: FLUSH_CLEAR, and that every boundary ends with its writes. -/
def Obligations.FlushClearEmptiesTheBuffer : Prop :=
  ∀ s : State,
    exec .flushClear s = .next { s with
      shift := 0#16, bcnt := 0#5, firstStart := 0#64, nibStart := 0#64, lastNext := 0#64 } ∧
    ∃ t : State, exec .bxFinal s = .next t ∧ t.shift = 0#16 ∧ t.bcnt = 0#5 ∧ t.firstStart = 0#64 ∧
      t.nibStart = 0#64 ∧ t.lastNext = 0#64

/-- 44 R99 to R102: the ChecksumEngine's functions on numbers; returned in the model's field `result`
(log entry 5). -/
def Obligations.ChecksumFunctionsFoldTheNibbles : Prop :=
  ∀ (v : BitVec 12) (a b : BitVec 4) (s : State), ∃ f g : BitVec 4,
    exec (.cksumFold v) s = .next { s with result := some (.nibble f) } ∧
    exec (.cksumStd v) s = .next { s with result := some (.nibble f) } ∧
    exec (.cksumBidir v) s = .next { s with result := some (.nibble g) } ∧
    exec (.cksumCmp a b) s = .next { s with result := some (.ok (decide (a = b))) } ∧
    f.toNat = (v.toNat ^^^ v.toNat / 16 ^^^ v.toNat / 256) % 16 ∧
    f = v.extractLsb' 8 4 ^^^ v.extractLsb' 4 4 ^^^ v.extractLsb' 0 4 ∧
    g.toNat = 15 - f.toNat

/-- 44 R104, points 1 and 4: the two formulas differ by 0xF; a single-bit error in the 12 bits changes exactly
one bit of the fold; and in both modes a frame whose nibble is the expected one fails the comparison once one
bit of its 12, or one bit of its nibble, is wrong. -/
def Obligations.ChecksumDetectsEverySingleBitError : Prop :=
  (∀ v : BitVec 12, cksumStd v ^^^ cksumBidir v = 15#4) ∧
  (∀ (v : BitVec 12) (k : Fin 12), ∃ j : Fin 4,
    cksumFold (v ^^^ (1#12 <<< k.val)) = cksumFold v ^^^ (1#4 <<< j.val)) ∧
  (∀ (v : BitVec 12) (k : Fin 12),
    cksumCmp (cksumStd (v ^^^ (1#12 <<< k.val))) (cksumStd v) = false ∧
    cksumCmp (cksumBidir (v ^^^ (1#12 <<< k.val))) (cksumBidir v) = false) ∧
  (∀ (v : BitVec 12) (k : Fin 4),
    cksumCmp (cksumStd v) (cksumStd v ^^^ (1#4 <<< k.val)) = false ∧
    cksumCmp (cksumBidir v) (cksumBidir v ^^^ (1#4 <<< k.val)) = false)

/-- 45 R105, R107 point 1: CLASSIFY is total, Command exactly below 48, and keeps the payload; returned in
the model's field `result` (log entry 5). -/
def Obligations.ClassifySplitsAtFortyEight : Prop :=
  ∀ (p : BitVec 11) (s : State),
    (p.toNat < 48 → exec (.classify p) s = .next { s with result := some (.category 1#3 p) }) ∧
    (48 ≤ p.toNat → exec (.classify p) s = .next { s with result := some (.category 2#3 p) })

/-! ## Events and the whole machine -/

/-- 60 R116: the events a SAMPLE appends are one of the table's sequences, at most four; a SAMPLE in a state
other than Bounded appends none. -/
def Obligations.SampleEmitsOneOfTheListedSequences : Prop :=
  ∀ (level : Bool) (s t : State), exec (.sample level) s = .next t →
    ∃ new : List Event, t.events = s.events ++ new ∧ new.length ≤ 4 ∧
      (s.bx ≠ 2#2 → new = []) ∧
      (new = [] ∨ (∃ b, new = [b] ∧ b.cat = 0#3) ∨
       (∃ b c k, new = [b, c, k] ∧ b.cat = 0#3 ∧ (c.cat = 1#3 ∨ c.cat = 2#3) ∧ k.cat = 3#3) ∨
       (∃ b c k e, new = [b, c, k, e] ∧ b.cat = 0#3 ∧ (c.cat = 1#3 ∨ c.cat = 2#3) ∧ k.cat = 3#3 ∧
          e.cat = 4#3 ∧ e.payload = 2#16) ∨
       (∃ b e, new = [b, e] ∧ b.cat = 0#3 ∧ e.cat = 4#3 ∧ e.payload = 1#16))

/-- 10 R29, 20 R41: every command only appends to the event stream, and only SAMPLE appends. -/
def Obligations.EventStreamIsAppendOnly : Prop :=
  ∀ (w : CommandWord) (s t : State), exec (decodeHost w) s = .next t →
    s.events <+: t.events ∧ ((∀ l, decodeHost w ≠ .sample l) → t.events = s.events)

/-- The invariant holds at reset. -/
def Obligations.InvariantHoldsAtReset : Prop := Inv State.reset

/-- HEADLINE. Every step keeps the invariant: CTRL's reserved bits, the fault codes and when they stand,
PERIOD and TIMEOUT against the frozen configuration, the inactivity count below TIMEOUT (10 R21), a legal bx
(R22), the PulseCandidate's order and the line levels (R24, 42 R90), the buffer registers (R26, R27, 43 R98),
and every event in the stream a legal record with a non-empty span (30 R57, 45 R107). -/
def Obligations.EveryStepKeepsTheInvariant : Prop :=
  ∀ s t : State, Inv s → step s = .next t → Inv t

/-- 40 R59: under the invariant, and short of the last sample index, no step is refused or stops. -/
def Obligations.EveryStepCompletesUnderTheInvariant : Prop :=
  ∀ s : State, Inv s → s.idx ≠ BitVec.allOnes 64 → ∃ t : State, step s = .next t

/-- HEADLINE. 10 R28 for every step, in whatever state the invariant allows and whatever the host sends: if the
registers represent the source's unbounded buffer `bits` before a step, then after it they represent the buffer
the source then has, and the event stream is the one the source's contracts give (`sourceStep`). The input list
is the model's (log entries 1 and 3). -/
def Obligations.EveryStepKeepsTheBufferRepresented : Prop :=
  ∀ (bits : List DecodedBit) (s t : State), Inv s → Represents bits s → step s = .next t →
    Represents (sourceStep bits s).1 t ∧ t.events = (sourceStep bits s).2

/-- At reset the registers represent the empty buffer. -/
def Obligations.ResetRepresentsTheEmptyBuffer : Prop := Represents [] State.reset
end

