-- ==== Sys2Proof/Laws/PerInstr.lean ====
section
/-! SUPPORT. One lemma per instruction: the word the encoder writes matches, in its format, a row of the
opcode table that carries the instruction's mnemonic. -/

namespace Sys2Proof.Laws.EncodedRow

/-- The encoder's word for `i`, where it has one, is admitted by a row with `i`'s mnemonic. -/
def Statement (i : Instr) : Prop :=
  i.wellFormed = true → ∀ c : Code, encode i = some c →
    ∃ r ∈ c.rows, r.mnemonic = i.mnemonic ∧ r.admits c.selector = true

/-- A mask over OP alone selects the OP field of a command word. -/
theorem commandWord_and (op m a : BitVec 4) (d : Reg) :
    commandWord op a d &&& (m ++ 0#36) = (op &&& m) ++ 0#36 := by
  apply BitVec.eq_of_getLsbD_eq
  intro k hk
  simp only [commandWord, BitVec.getLsbD_and, BitVec.getLsbD_append]
  by_cases h : k < 36
  · simp [h]
  · have h1 : ¬ k < 32 := by omega
    have h2 : ¬ k - 32 < 4 := by omega
    have h3 : k - 32 - 4 = k - 36 := by omega
    simp [h, h1, h2, h3]

/-- A row whose mask reads OP alone admits a command word exactly on its OP. -/
theorem admits_commandWord (r : Row) (op m a : BitVec 4) (d : Reg)
    (hm : r.mask = (m ++ 0#36).toNat) (hp : r.pattern = ((op &&& m) ++ 0#36).toNat) :
    r.admits (commandWord op a d).toNat = true := by
  simp only [Row.admits, hm, hp, ← BitVec.toNat_and, commandWord_and, beq_self_eq_true]

theorem cfgw (addr : BitVec 4) (data : Reg) : Statement (Instr.cfgw addr data) := by
  rintro - _ ⟨⟩
  exact ⟨hostRows[0], by simp [Code.rows, hostRows], rfl,
    admits_commandWord _ _ 0xF#4 _ _ rfl rfl⟩

theorem cfgr (addr : BitVec 4) : Statement (Instr.cfgr addr) := by
  rintro - _ ⟨⟩
  exact ⟨hostRows[1], by simp [Code.rows, hostRows], rfl,
    admits_commandWord _ _ 0xF#4 _ _ rfl rfl⟩

theorem start : Statement .start := by
  rintro - _ ⟨⟩
  exact ⟨hostRows[2], by simp [Code.rows, hostRows], rfl,
    admits_commandWord _ _ 0xF#4 _ _ rfl rfl⟩

theorem sample (level : Bool) : Statement (Instr.sample level) := by
  rintro - _ ⟨⟩
  exact ⟨hostRows[3], by simp [Code.rows, hostRows], rfl,
    admits_commandWord _ _ 0xF#4 _ _ rfl rfl⟩

theorem endStream : Statement .endStream := by
  rintro - _ ⟨⟩
  exact ⟨hostRows[4], by simp [Code.rows, hostRows], rfl,
    admits_commandWord _ _ 0xF#4 _ _ rfl rfl⟩

theorem reservedZero (addr : BitVec 4) (data : Reg) : Statement (Instr.reservedZero addr data) := by
  rintro - _ ⟨⟩
  exact ⟨hostRows[5], by simp [Code.rows, hostRows], rfl,
    admits_commandWord _ _ 0xF#4 _ _ rfl rfl⟩

theorem reservedSix (op : BitVec 1) (addr : BitVec 4) (data : Reg) : Statement (Instr.reservedSix op addr data) := by
  rintro - _ ⟨⟩
  exact ⟨hostRows[6], by simp [Code.rows, hostRows], rfl,
    admits_commandWord _ _ 0xE#4 _ _ rfl (by revert op; decide)⟩

theorem reservedHigh (op : BitVec 3) (addr : BitVec 4) (data : Reg) : Statement (Instr.reservedHigh op addr data) := by
  rintro - _ ⟨⟩
  exact ⟨hostRows[7], by simp [Code.rows, hostRows], rfl,
    admits_commandWord _ _ 0x8#4 _ _ rfl (by revert op; decide)⟩

theorem refSample (t : Bool) (e : Bool) (s : Bool) : Statement (Instr.refSample t e s) := by
  rintro - _ ⟨⟩
  refine ⟨waitRows[0], by simp [Code.rows, waitRows], rfl, ?_⟩
  revert t e s
  decide

theorem waitNone (s : Bool) : Statement (Instr.waitNone s) := by
  rintro - _ ⟨⟩
  refine ⟨waitRows[1], by simp [Code.rows, waitRows], rfl, ?_⟩
  revert s
  decide

theorem edgeRise (t : Bool) : Statement (Instr.edgeRise t) := by
  rintro - _ ⟨⟩
  refine ⟨waitRows[2], by simp [Code.rows, waitRows], rfl, ?_⟩
  revert t
  decide

theorem edgeFall (t : Bool) : Statement (Instr.edgeFall t) := by
  rintro - _ ⟨⟩
  refine ⟨waitRows[3], by simp [Code.rows, waitRows], rfl, ?_⟩
  revert t
  decide

theorem timeout (s : Bool) : Statement (Instr.timeout s) := by
  rintro - _ ⟨⟩
  refine ⟨waitRows[4], by simp [Code.rows, waitRows], rfl, ?_⟩
  revert s
  decide

theorem qualify (bidir : Bool) (cond : BitVec 2) : Statement (Instr.qualify bidir cond) := by
  rintro - _ ⟨⟩
  refine ⟨qualifyRows[0], by simp [Code.rows, qualifyRows], rfl, ?_⟩
  revert bidir cond
  decide

theorem bxReserved (qev : BitVec 2) : Statement (Instr.bxReserved qev) := by
  rintro - _ ⟨⟩
  refine ⟨bxRows[0], by simp [Code.rows, bxRows], rfl, ?_⟩
  revert qev
  decide

theorem bxNop (bx : BitVec 2) : Statement (Instr.bxNop bx) := by
  rintro - _ ⟨⟩
  refine ⟨bxRows[1], by simp [Code.rows, bxRows], rfl, ?_⟩
  revert bx
  decide

theorem bxBegin (i : Index) : Statement (Instr.bxBegin i) := by
  rintro - _ ⟨⟩
  exact ⟨bxRows[2], by simp [Code.rows, bxRows], rfl, by simp [bxRows, Row.admits, Code.selector]⟩

theorem bxIgnIdleEnd : Statement .bxIgnIdleEnd := by
  rintro - _ ⟨⟩
  exact ⟨bxRows[3], by simp [Code.rows, bxRows], rfl, rfl⟩

theorem bxIgnIdleTmo : Statement .bxIgnIdleTmo := by
  rintro - _ ⟨⟩
  exact ⟨bxRows[4], by simp [Code.rows, bxRows], rfl, rfl⟩

theorem bxIgnStartedStart : Statement .bxIgnStartedStart := by
  rintro - _ ⟨⟩
  exact ⟨bxRows[5], by simp [Code.rows, bxRows], rfl, rfl⟩

theorem bxBound (i : Index) : Statement (Instr.bxBound i) := by
  rintro - _ ⟨⟩
  exact ⟨bxRows[6], by simp [Code.rows, bxRows], rfl, by simp [bxRows, Row.admits, Code.selector]⟩

theorem bxIgnStartedTmo : Statement .bxIgnStartedTmo := by
  rintro - _ ⟨⟩
  exact ⟨bxRows[7], by simp [Code.rows, bxRows], rfl, rfl⟩

theorem bxNext (i : Index) : Statement (Instr.bxNext i) := by
  rintro - _ ⟨⟩
  exact ⟨bxRows[8], by simp [Code.rows, bxRows], rfl, by simp [bxRows, Row.admits, Code.selector]⟩

theorem bxIgnBoundedEnd : Statement .bxIgnBoundedEnd := by
  rintro - _ ⟨⟩
  exact ⟨bxRows[9], by simp [Code.rows, bxRows], rfl, rfl⟩

theorem bxFinal : Statement .bxFinal := by
  rintro - _ ⟨⟩
  exact ⟨bxRows[10], by simp [Code.rows, bxRows], rfl, rfl⟩

theorem flushEmpty : Statement .flushEmpty := by
  rintro - _ ⟨⟩
  exact ⟨flushRows[0], by simp [Code.rows, flushRows], rfl, rfl⟩

theorem flushFrame : Statement .flushFrame := by
  rintro - _ ⟨⟩
  exact ⟨flushRows[1], by simp [Code.rows, flushRows], rfl, rfl⟩

theorem flushBadlen (count : BitVec 5) : Statement (Instr.flushBadlen count) := by
  rintro - _ ⟨⟩
  refine ⟨flushRows[2], by simp [Code.rows, flushRows], rfl, ?_⟩
  revert count
  decide

theorem flushClear : Statement .flushClear := by
  rintro - _ ⟨⟩

theorem bitval (start : Index) (stop : Index) (next : Index) : Statement (Instr.bitval start stop next) := by
  rintro - _ ⟨⟩

theorem append (b : DecodedBit) : Statement (Instr.append b) := by
  rintro - _ ⟨⟩

theorem frameFields (f : BitVec 16) : Statement (Instr.frameFields f) := by
  rintro - _ ⟨⟩

theorem cksumFold (v : BitVec 12) : Statement (Instr.cksumFold v) := by
  rintro - _ ⟨⟩

theorem cksumStd (v : BitVec 12) : Statement (Instr.cksumStd v) := by
  rintro - _ ⟨⟩
  exact ⟨cksumRows[0], by simp [Code.rows, cksumRows], rfl, by simp [cksumRows, Row.admits, Code.selector]⟩

theorem cksumBidir (v : BitVec 12) : Statement (Instr.cksumBidir v) := by
  rintro - _ ⟨⟩
  exact ⟨cksumRows[1], by simp [Code.rows, cksumRows], rfl, by simp [cksumRows, Row.admits, Code.selector]⟩

theorem cksumCmp (expected : BitVec 4) (nibble : BitVec 4) : Statement (Instr.cksumCmp expected nibble) := by
  rintro - _ ⟨⟩

theorem classify (payload : BitVec 11) : Statement (Instr.classify payload) := by
  rintro - _ ⟨⟩

end Sys2Proof.Laws.EncodedRow
end

