-- ==== Sys2Proof/Laws/State.lean ====
section
/-! SUPPORT. One lemma per field per named update of the state, each true by rfl. -/

namespace Sys2Proof.Machine

@[simp] theorem State.respond_ctrl (v : Reg) (s : State) : (s.respond v).ctrl = s.ctrl := rfl
@[simp] theorem State.respond_samplerate (v : Reg) (s : State) : (s.respond v).samplerate = s.samplerate := rfl
@[simp] theorem State.respond_run (v : Reg) (s : State) : (s.respond v).run = s.run := rfl
@[simp] theorem State.respond_fault (v : Reg) (s : State) : (s.respond v).fault = s.fault := rfl
@[simp] theorem State.respond_period (v : Reg) (s : State) : (s.respond v).period = s.period := rfl
@[simp] theorem State.respond_timeout (v : Reg) (s : State) : (s.respond v).timeout = s.timeout := rfl
@[simp] theorem State.respond_prevValid (v : Reg) (s : State) : (s.respond v).prevValid = s.prevValid := rfl
@[simp] theorem State.respond_prev (v : Reg) (s : State) : (s.respond v).prev = s.prev := rfl
@[simp] theorem State.respond_idle (v : Reg) (s : State) : (s.respond v).idle = s.idle := rfl
@[simp] theorem State.respond_idx (v : Reg) (s : State) : (s.respond v).idx = s.idx := rfl
@[simp] theorem State.respond_bx (v : Reg) (s : State) : (s.respond v).bx = s.bx := rfl
@[simp] theorem State.respond_pcStart (v : Reg) (s : State) : (s.respond v).pcStart = s.pcStart := rfl
@[simp] theorem State.respond_pcEnd (v : Reg) (s : State) : (s.respond v).pcEnd = s.pcEnd := rfl
@[simp] theorem State.respond_shift (v : Reg) (s : State) : (s.respond v).shift = s.shift := rfl
@[simp] theorem State.respond_bcnt (v : Reg) (s : State) : (s.respond v).bcnt = s.bcnt := rfl
@[simp] theorem State.respond_firstStart (v : Reg) (s : State) : (s.respond v).firstStart = s.firstStart := rfl
@[simp] theorem State.respond_nibStart (v : Reg) (s : State) : (s.respond v).nibStart = s.nibStart := rfl
@[simp] theorem State.respond_lastNext (v : Reg) (s : State) : (s.respond v).lastNext = s.lastNext := rfl
@[simp] theorem State.respond_events (v : Reg) (s : State) : (s.respond v).events = s.events := rfl
@[simp] theorem State.respond_rdata (v : Reg) (s : State) : (s.respond v).rdata = some v := rfl
@[simp] theorem State.respond_result (v : Reg) (s : State) : (s.respond v).result = s.result := rfl
@[simp] theorem State.respond_input (v : Reg) (s : State) : (s.respond v).input = s.input := rfl

@[simp] theorem State.give_ctrl (r : Result) (s : State) : (s.give r).ctrl = s.ctrl := rfl
@[simp] theorem State.give_samplerate (r : Result) (s : State) : (s.give r).samplerate = s.samplerate := rfl
@[simp] theorem State.give_run (r : Result) (s : State) : (s.give r).run = s.run := rfl
@[simp] theorem State.give_fault (r : Result) (s : State) : (s.give r).fault = s.fault := rfl
@[simp] theorem State.give_period (r : Result) (s : State) : (s.give r).period = s.period := rfl
@[simp] theorem State.give_timeout (r : Result) (s : State) : (s.give r).timeout = s.timeout := rfl
@[simp] theorem State.give_prevValid (r : Result) (s : State) : (s.give r).prevValid = s.prevValid := rfl
@[simp] theorem State.give_prev (r : Result) (s : State) : (s.give r).prev = s.prev := rfl
@[simp] theorem State.give_idle (r : Result) (s : State) : (s.give r).idle = s.idle := rfl
@[simp] theorem State.give_idx (r : Result) (s : State) : (s.give r).idx = s.idx := rfl
@[simp] theorem State.give_bx (r : Result) (s : State) : (s.give r).bx = s.bx := rfl
@[simp] theorem State.give_pcStart (r : Result) (s : State) : (s.give r).pcStart = s.pcStart := rfl
@[simp] theorem State.give_pcEnd (r : Result) (s : State) : (s.give r).pcEnd = s.pcEnd := rfl
@[simp] theorem State.give_shift (r : Result) (s : State) : (s.give r).shift = s.shift := rfl
@[simp] theorem State.give_bcnt (r : Result) (s : State) : (s.give r).bcnt = s.bcnt := rfl
@[simp] theorem State.give_firstStart (r : Result) (s : State) : (s.give r).firstStart = s.firstStart := rfl
@[simp] theorem State.give_nibStart (r : Result) (s : State) : (s.give r).nibStart = s.nibStart := rfl
@[simp] theorem State.give_lastNext (r : Result) (s : State) : (s.give r).lastNext = s.lastNext := rfl
@[simp] theorem State.give_events (r : Result) (s : State) : (s.give r).events = s.events := rfl
@[simp] theorem State.give_rdata (r : Result) (s : State) : (s.give r).rdata = s.rdata := rfl
@[simp] theorem State.give_result (r : Result) (s : State) : (s.give r).result = some r := rfl
@[simp] theorem State.give_input (r : Result) (s : State) : (s.give r).input = s.input := rfl

@[simp] theorem State.undriven_ctrl (s : State) : s.undriven.ctrl = s.ctrl := rfl
@[simp] theorem State.undriven_samplerate (s : State) : s.undriven.samplerate = s.samplerate := rfl
@[simp] theorem State.undriven_run (s : State) : s.undriven.run = s.run := rfl
@[simp] theorem State.undriven_fault (s : State) : s.undriven.fault = s.fault := rfl
@[simp] theorem State.undriven_period (s : State) : s.undriven.period = s.period := rfl
@[simp] theorem State.undriven_timeout (s : State) : s.undriven.timeout = s.timeout := rfl
@[simp] theorem State.undriven_prevValid (s : State) : s.undriven.prevValid = s.prevValid := rfl
@[simp] theorem State.undriven_prev (s : State) : s.undriven.prev = s.prev := rfl
@[simp] theorem State.undriven_idle (s : State) : s.undriven.idle = s.idle := rfl
@[simp] theorem State.undriven_idx (s : State) : s.undriven.idx = s.idx := rfl
@[simp] theorem State.undriven_bx (s : State) : s.undriven.bx = s.bx := rfl
@[simp] theorem State.undriven_pcStart (s : State) : s.undriven.pcStart = s.pcStart := rfl
@[simp] theorem State.undriven_pcEnd (s : State) : s.undriven.pcEnd = s.pcEnd := rfl
@[simp] theorem State.undriven_shift (s : State) : s.undriven.shift = s.shift := rfl
@[simp] theorem State.undriven_bcnt (s : State) : s.undriven.bcnt = s.bcnt := rfl
@[simp] theorem State.undriven_firstStart (s : State) : s.undriven.firstStart = s.firstStart := rfl
@[simp] theorem State.undriven_nibStart (s : State) : s.undriven.nibStart = s.nibStart := rfl
@[simp] theorem State.undriven_lastNext (s : State) : s.undriven.lastNext = s.lastNext := rfl
@[simp] theorem State.undriven_events (s : State) : s.undriven.events = s.events := rfl
@[simp] theorem State.undriven_rdata (s : State) : s.undriven.rdata = none := rfl
@[simp] theorem State.undriven_result (s : State) : s.undriven.result = none := rfl
@[simp] theorem State.undriven_input (s : State) : s.undriven.input = s.input := rfl

@[simp] theorem State.emit_ctrl (e : Event) (s : State) : (s.emit e).ctrl = s.ctrl := rfl
@[simp] theorem State.emit_samplerate (e : Event) (s : State) : (s.emit e).samplerate = s.samplerate := rfl
@[simp] theorem State.emit_run (e : Event) (s : State) : (s.emit e).run = s.run := rfl
@[simp] theorem State.emit_fault (e : Event) (s : State) : (s.emit e).fault = s.fault := rfl
@[simp] theorem State.emit_period (e : Event) (s : State) : (s.emit e).period = s.period := rfl
@[simp] theorem State.emit_timeout (e : Event) (s : State) : (s.emit e).timeout = s.timeout := rfl
@[simp] theorem State.emit_prevValid (e : Event) (s : State) : (s.emit e).prevValid = s.prevValid := rfl
@[simp] theorem State.emit_prev (e : Event) (s : State) : (s.emit e).prev = s.prev := rfl
@[simp] theorem State.emit_idle (e : Event) (s : State) : (s.emit e).idle = s.idle := rfl
@[simp] theorem State.emit_idx (e : Event) (s : State) : (s.emit e).idx = s.idx := rfl
@[simp] theorem State.emit_bx (e : Event) (s : State) : (s.emit e).bx = s.bx := rfl
@[simp] theorem State.emit_pcStart (e : Event) (s : State) : (s.emit e).pcStart = s.pcStart := rfl
@[simp] theorem State.emit_pcEnd (e : Event) (s : State) : (s.emit e).pcEnd = s.pcEnd := rfl
@[simp] theorem State.emit_shift (e : Event) (s : State) : (s.emit e).shift = s.shift := rfl
@[simp] theorem State.emit_bcnt (e : Event) (s : State) : (s.emit e).bcnt = s.bcnt := rfl
@[simp] theorem State.emit_firstStart (e : Event) (s : State) : (s.emit e).firstStart = s.firstStart := rfl
@[simp] theorem State.emit_nibStart (e : Event) (s : State) : (s.emit e).nibStart = s.nibStart := rfl
@[simp] theorem State.emit_lastNext (e : Event) (s : State) : (s.emit e).lastNext = s.lastNext := rfl
@[simp] theorem State.emit_events (e : Event) (s : State) : (s.emit e).events = s.events ++ [e] := rfl
@[simp] theorem State.emit_rdata (e : Event) (s : State) : (s.emit e).rdata = s.rdata := rfl
@[simp] theorem State.emit_result (e : Event) (s : State) : (s.emit e).result = s.result := rfl
@[simp] theorem State.emit_input (e : Event) (s : State) : (s.emit e).input = s.input := rfl

@[simp] theorem State.issue_ctrl (w : CommandWord) (s : State) : (s.issue w).ctrl = s.ctrl := rfl
@[simp] theorem State.issue_samplerate (w : CommandWord) (s : State) : (s.issue w).samplerate = s.samplerate := rfl
@[simp] theorem State.issue_run (w : CommandWord) (s : State) : (s.issue w).run = s.run := rfl
@[simp] theorem State.issue_fault (w : CommandWord) (s : State) : (s.issue w).fault = s.fault := rfl
@[simp] theorem State.issue_period (w : CommandWord) (s : State) : (s.issue w).period = s.period := rfl
@[simp] theorem State.issue_timeout (w : CommandWord) (s : State) : (s.issue w).timeout = s.timeout := rfl
@[simp] theorem State.issue_prevValid (w : CommandWord) (s : State) : (s.issue w).prevValid = s.prevValid := rfl
@[simp] theorem State.issue_prev (w : CommandWord) (s : State) : (s.issue w).prev = s.prev := rfl
@[simp] theorem State.issue_idle (w : CommandWord) (s : State) : (s.issue w).idle = s.idle := rfl
@[simp] theorem State.issue_idx (w : CommandWord) (s : State) : (s.issue w).idx = s.idx := rfl
@[simp] theorem State.issue_bx (w : CommandWord) (s : State) : (s.issue w).bx = s.bx := rfl
@[simp] theorem State.issue_pcStart (w : CommandWord) (s : State) : (s.issue w).pcStart = s.pcStart := rfl
@[simp] theorem State.issue_pcEnd (w : CommandWord) (s : State) : (s.issue w).pcEnd = s.pcEnd := rfl
@[simp] theorem State.issue_shift (w : CommandWord) (s : State) : (s.issue w).shift = s.shift := rfl
@[simp] theorem State.issue_bcnt (w : CommandWord) (s : State) : (s.issue w).bcnt = s.bcnt := rfl
@[simp] theorem State.issue_firstStart (w : CommandWord) (s : State) : (s.issue w).firstStart = s.firstStart := rfl
@[simp] theorem State.issue_nibStart (w : CommandWord) (s : State) : (s.issue w).nibStart = s.nibStart := rfl
@[simp] theorem State.issue_lastNext (w : CommandWord) (s : State) : (s.issue w).lastNext = s.lastNext := rfl
@[simp] theorem State.issue_events (w : CommandWord) (s : State) : (s.issue w).events = s.events := rfl
@[simp] theorem State.issue_rdata (w : CommandWord) (s : State) : (s.issue w).rdata = s.rdata := rfl
@[simp] theorem State.issue_result (w : CommandWord) (s : State) : (s.issue w).result = s.result := rfl
@[simp] theorem State.issue_input (w : CommandWord) (s : State) : (s.issue w).input = .command w :: s.input := rfl

@[simp] theorem State.clearDatapath_ctrl (s : State) : s.clearDatapath.ctrl = s.ctrl := rfl
@[simp] theorem State.clearDatapath_samplerate (s : State) : s.clearDatapath.samplerate = s.samplerate := rfl
@[simp] theorem State.clearDatapath_run (s : State) : s.clearDatapath.run = s.run := rfl
@[simp] theorem State.clearDatapath_fault (s : State) : s.clearDatapath.fault = s.fault := rfl
@[simp] theorem State.clearDatapath_period (s : State) : s.clearDatapath.period = s.period := rfl
@[simp] theorem State.clearDatapath_timeout (s : State) : s.clearDatapath.timeout = s.timeout := rfl
@[simp] theorem State.clearDatapath_prevValid (s : State) : s.clearDatapath.prevValid = false := rfl
@[simp] theorem State.clearDatapath_prev (s : State) : s.clearDatapath.prev = false := rfl
@[simp] theorem State.clearDatapath_idle (s : State) : s.clearDatapath.idle = 0#32 := rfl
@[simp] theorem State.clearDatapath_idx (s : State) : s.clearDatapath.idx = 0#64 := rfl
@[simp] theorem State.clearDatapath_bx (s : State) : s.clearDatapath.bx = 0#2 := rfl
@[simp] theorem State.clearDatapath_pcStart (s : State) : s.clearDatapath.pcStart = 0#64 := rfl
@[simp] theorem State.clearDatapath_pcEnd (s : State) : s.clearDatapath.pcEnd = 0#64 := rfl
@[simp] theorem State.clearDatapath_shift (s : State) : s.clearDatapath.shift = 0#16 := rfl
@[simp] theorem State.clearDatapath_bcnt (s : State) : s.clearDatapath.bcnt = 0#5 := rfl
@[simp] theorem State.clearDatapath_firstStart (s : State) : s.clearDatapath.firstStart = 0#64 := rfl
@[simp] theorem State.clearDatapath_nibStart (s : State) : s.clearDatapath.nibStart = 0#64 := rfl
@[simp] theorem State.clearDatapath_lastNext (s : State) : s.clearDatapath.lastNext = 0#64 := rfl
@[simp] theorem State.clearDatapath_events (s : State) : s.clearDatapath.events = s.events := rfl
@[simp] theorem State.clearDatapath_rdata (s : State) : s.clearDatapath.rdata = s.rdata := rfl
@[simp] theorem State.clearDatapath_result (s : State) : s.clearDatapath.result = s.result := rfl
@[simp] theorem State.clearDatapath_input (s : State) : s.clearDatapath.input = s.input := rfl

@[simp] theorem State.raiseFault_ctrl (c : BitVec 4) (s : State) : (s.raiseFault c).ctrl = s.ctrl := rfl
@[simp] theorem State.raiseFault_samplerate (c : BitVec 4) (s : State) : (s.raiseFault c).samplerate = s.samplerate := rfl
@[simp] theorem State.raiseFault_run (c : BitVec 4) (s : State) : (s.raiseFault c).run = .faulted := rfl
@[simp] theorem State.raiseFault_fault (c : BitVec 4) (s : State) : (s.raiseFault c).fault = c := rfl
@[simp] theorem State.raiseFault_period (c : BitVec 4) (s : State) : (s.raiseFault c).period = 0#32 := rfl
@[simp] theorem State.raiseFault_timeout (c : BitVec 4) (s : State) : (s.raiseFault c).timeout = 0#32 := rfl
@[simp] theorem State.raiseFault_prevValid (c : BitVec 4) (s : State) : (s.raiseFault c).prevValid = s.prevValid := rfl
@[simp] theorem State.raiseFault_prev (c : BitVec 4) (s : State) : (s.raiseFault c).prev = s.prev := rfl
@[simp] theorem State.raiseFault_idle (c : BitVec 4) (s : State) : (s.raiseFault c).idle = s.idle := rfl
@[simp] theorem State.raiseFault_idx (c : BitVec 4) (s : State) : (s.raiseFault c).idx = s.idx := rfl
@[simp] theorem State.raiseFault_bx (c : BitVec 4) (s : State) : (s.raiseFault c).bx = s.bx := rfl
@[simp] theorem State.raiseFault_pcStart (c : BitVec 4) (s : State) : (s.raiseFault c).pcStart = s.pcStart := rfl
@[simp] theorem State.raiseFault_pcEnd (c : BitVec 4) (s : State) : (s.raiseFault c).pcEnd = s.pcEnd := rfl
@[simp] theorem State.raiseFault_shift (c : BitVec 4) (s : State) : (s.raiseFault c).shift = s.shift := rfl
@[simp] theorem State.raiseFault_bcnt (c : BitVec 4) (s : State) : (s.raiseFault c).bcnt = s.bcnt := rfl
@[simp] theorem State.raiseFault_firstStart (c : BitVec 4) (s : State) : (s.raiseFault c).firstStart = s.firstStart := rfl
@[simp] theorem State.raiseFault_nibStart (c : BitVec 4) (s : State) : (s.raiseFault c).nibStart = s.nibStart := rfl
@[simp] theorem State.raiseFault_lastNext (c : BitVec 4) (s : State) : (s.raiseFault c).lastNext = s.lastNext := rfl
@[simp] theorem State.raiseFault_events (c : BitVec 4) (s : State) : (s.raiseFault c).events = s.events := rfl
@[simp] theorem State.raiseFault_rdata (c : BitVec 4) (s : State) : (s.raiseFault c).rdata = s.rdata := rfl
@[simp] theorem State.raiseFault_result (c : BitVec 4) (s : State) : (s.raiseFault c).result = s.result := rfl
@[simp] theorem State.raiseFault_input (c : BitVec 4) (s : State) : (s.raiseFault c).input = s.input := rfl

@[simp] theorem State.enterRunning_ctrl (n : Nat) (s : State) : (s.enterRunning n).ctrl = s.ctrl := rfl
@[simp] theorem State.enterRunning_samplerate (n : Nat) (s : State) : (s.enterRunning n).samplerate = s.samplerate := rfl
@[simp] theorem State.enterRunning_run (n : Nat) (s : State) : (s.enterRunning n).run = .running := rfl
@[simp] theorem State.enterRunning_fault (n : Nat) (s : State) : (s.enterRunning n).fault = 0#4 := rfl
@[simp] theorem State.enterRunning_period (n : Nat) (s : State) : (s.enterRunning n).period = BitVec.ofNat 32 n := rfl
@[simp] theorem State.enterRunning_timeout (n : Nat) (s : State) : (s.enterRunning n).timeout = BitVec.ofNat 32 (3 * n) := rfl
@[simp] theorem State.enterRunning_prevValid (n : Nat) (s : State) : (s.enterRunning n).prevValid = s.prevValid := rfl
@[simp] theorem State.enterRunning_prev (n : Nat) (s : State) : (s.enterRunning n).prev = s.prev := rfl
@[simp] theorem State.enterRunning_idle (n : Nat) (s : State) : (s.enterRunning n).idle = s.idle := rfl
@[simp] theorem State.enterRunning_idx (n : Nat) (s : State) : (s.enterRunning n).idx = s.idx := rfl
@[simp] theorem State.enterRunning_bx (n : Nat) (s : State) : (s.enterRunning n).bx = s.bx := rfl
@[simp] theorem State.enterRunning_pcStart (n : Nat) (s : State) : (s.enterRunning n).pcStart = s.pcStart := rfl
@[simp] theorem State.enterRunning_pcEnd (n : Nat) (s : State) : (s.enterRunning n).pcEnd = s.pcEnd := rfl
@[simp] theorem State.enterRunning_shift (n : Nat) (s : State) : (s.enterRunning n).shift = s.shift := rfl
@[simp] theorem State.enterRunning_bcnt (n : Nat) (s : State) : (s.enterRunning n).bcnt = s.bcnt := rfl
@[simp] theorem State.enterRunning_firstStart (n : Nat) (s : State) : (s.enterRunning n).firstStart = s.firstStart := rfl
@[simp] theorem State.enterRunning_nibStart (n : Nat) (s : State) : (s.enterRunning n).nibStart = s.nibStart := rfl
@[simp] theorem State.enterRunning_lastNext (n : Nat) (s : State) : (s.enterRunning n).lastNext = s.lastNext := rfl
@[simp] theorem State.enterRunning_events (n : Nat) (s : State) : (s.enterRunning n).events = s.events := rfl
@[simp] theorem State.enterRunning_rdata (n : Nat) (s : State) : (s.enterRunning n).rdata = s.rdata := rfl
@[simp] theorem State.enterRunning_result (n : Nat) (s : State) : (s.enterRunning n).result = s.result := rfl
@[simp] theorem State.enterRunning_input (n : Nat) (s : State) : (s.enterRunning n).input = s.input := rfl

@[simp] theorem State.reference_ctrl (l : Bool) (s : State) : (s.reference l).ctrl = s.ctrl := rfl
@[simp] theorem State.reference_samplerate (l : Bool) (s : State) : (s.reference l).samplerate = s.samplerate := rfl
@[simp] theorem State.reference_run (l : Bool) (s : State) : (s.reference l).run = s.run := rfl
@[simp] theorem State.reference_fault (l : Bool) (s : State) : (s.reference l).fault = s.fault := rfl
@[simp] theorem State.reference_period (l : Bool) (s : State) : (s.reference l).period = s.period := rfl
@[simp] theorem State.reference_timeout (l : Bool) (s : State) : (s.reference l).timeout = s.timeout := rfl
@[simp] theorem State.reference_prevValid (l : Bool) (s : State) : (s.reference l).prevValid = true := rfl
@[simp] theorem State.reference_prev (l : Bool) (s : State) : (s.reference l).prev = l := rfl
@[simp] theorem State.reference_idle (l : Bool) (s : State) : (s.reference l).idle = 0#32 := rfl
@[simp] theorem State.reference_idx (l : Bool) (s : State) : (s.reference l).idx = 0#64 := rfl
@[simp] theorem State.reference_bx (l : Bool) (s : State) : (s.reference l).bx = s.bx := rfl
@[simp] theorem State.reference_pcStart (l : Bool) (s : State) : (s.reference l).pcStart = s.pcStart := rfl
@[simp] theorem State.reference_pcEnd (l : Bool) (s : State) : (s.reference l).pcEnd = s.pcEnd := rfl
@[simp] theorem State.reference_shift (l : Bool) (s : State) : (s.reference l).shift = s.shift := rfl
@[simp] theorem State.reference_bcnt (l : Bool) (s : State) : (s.reference l).bcnt = s.bcnt := rfl
@[simp] theorem State.reference_firstStart (l : Bool) (s : State) : (s.reference l).firstStart = s.firstStart := rfl
@[simp] theorem State.reference_nibStart (l : Bool) (s : State) : (s.reference l).nibStart = s.nibStart := rfl
@[simp] theorem State.reference_lastNext (l : Bool) (s : State) : (s.reference l).lastNext = s.lastNext := rfl
@[simp] theorem State.reference_events (l : Bool) (s : State) : (s.reference l).events = s.events := rfl
@[simp] theorem State.reference_rdata (l : Bool) (s : State) : (s.reference l).rdata = s.rdata := rfl
@[simp] theorem State.reference_result (l : Bool) (s : State) : (s.reference l).result = s.result := rfl
@[simp] theorem State.reference_input (l : Bool) (s : State) : (s.reference l).input = s.input := rfl

@[simp] theorem State.advance_ctrl (c : BitVec 2) (l : Bool) (s : State) : (s.advance c l).ctrl = s.ctrl := rfl
@[simp] theorem State.advance_samplerate (c : BitVec 2) (l : Bool) (s : State) : (s.advance c l).samplerate = s.samplerate := rfl
@[simp] theorem State.advance_run (c : BitVec 2) (l : Bool) (s : State) : (s.advance c l).run = s.run := rfl
@[simp] theorem State.advance_fault (c : BitVec 2) (l : Bool) (s : State) : (s.advance c l).fault = s.fault := rfl
@[simp] theorem State.advance_period (c : BitVec 2) (l : Bool) (s : State) : (s.advance c l).period = s.period := rfl
@[simp] theorem State.advance_timeout (c : BitVec 2) (l : Bool) (s : State) : (s.advance c l).timeout = s.timeout := rfl
@[simp] theorem State.advance_prevValid (c : BitVec 2) (l : Bool) (s : State) : (s.advance c l).prevValid = s.prevValid := rfl
@[simp] theorem State.advance_prev (c : BitVec 2) (l : Bool) (s : State) : (s.advance c l).prev = l := rfl
@[simp] theorem State.advance_idle (c : BitVec 2) (l : Bool) (s : State) : (s.advance c l).idle = if c = 0#2 then idleSucc s.idle else 0#32 := rfl
@[simp] theorem State.advance_idx (c : BitVec 2) (l : Bool) (s : State) : (s.advance c l).idx = s.idx + 1#64 := rfl
@[simp] theorem State.advance_bx (c : BitVec 2) (l : Bool) (s : State) : (s.advance c l).bx = s.bx := rfl
@[simp] theorem State.advance_pcStart (c : BitVec 2) (l : Bool) (s : State) : (s.advance c l).pcStart = s.pcStart := rfl
@[simp] theorem State.advance_pcEnd (c : BitVec 2) (l : Bool) (s : State) : (s.advance c l).pcEnd = s.pcEnd := rfl
@[simp] theorem State.advance_shift (c : BitVec 2) (l : Bool) (s : State) : (s.advance c l).shift = s.shift := rfl
@[simp] theorem State.advance_bcnt (c : BitVec 2) (l : Bool) (s : State) : (s.advance c l).bcnt = s.bcnt := rfl
@[simp] theorem State.advance_firstStart (c : BitVec 2) (l : Bool) (s : State) : (s.advance c l).firstStart = s.firstStart := rfl
@[simp] theorem State.advance_nibStart (c : BitVec 2) (l : Bool) (s : State) : (s.advance c l).nibStart = s.nibStart := rfl
@[simp] theorem State.advance_lastNext (c : BitVec 2) (l : Bool) (s : State) : (s.advance c l).lastNext = s.lastNext := rfl
@[simp] theorem State.advance_events (c : BitVec 2) (l : Bool) (s : State) : (s.advance c l).events = s.events := rfl
@[simp] theorem State.advance_rdata (c : BitVec 2) (l : Bool) (s : State) : (s.advance c l).rdata = s.rdata := rfl
@[simp] theorem State.advance_result (c : BitVec 2) (l : Bool) (s : State) : (s.advance c l).result = s.result := rfl
@[simp] theorem State.advance_input (c : BitVec 2) (l : Bool) (s : State) : (s.advance c l).input = s.input := rfl

@[simp] theorem State.beginPulse_ctrl (i : Index) (s : State) : (s.beginPulse i).ctrl = s.ctrl := rfl
@[simp] theorem State.beginPulse_samplerate (i : Index) (s : State) : (s.beginPulse i).samplerate = s.samplerate := rfl
@[simp] theorem State.beginPulse_run (i : Index) (s : State) : (s.beginPulse i).run = s.run := rfl
@[simp] theorem State.beginPulse_fault (i : Index) (s : State) : (s.beginPulse i).fault = s.fault := rfl
@[simp] theorem State.beginPulse_period (i : Index) (s : State) : (s.beginPulse i).period = s.period := rfl
@[simp] theorem State.beginPulse_timeout (i : Index) (s : State) : (s.beginPulse i).timeout = s.timeout := rfl
@[simp] theorem State.beginPulse_prevValid (i : Index) (s : State) : (s.beginPulse i).prevValid = s.prevValid := rfl
@[simp] theorem State.beginPulse_prev (i : Index) (s : State) : (s.beginPulse i).prev = s.prev := rfl
@[simp] theorem State.beginPulse_idle (i : Index) (s : State) : (s.beginPulse i).idle = s.idle := rfl
@[simp] theorem State.beginPulse_idx (i : Index) (s : State) : (s.beginPulse i).idx = s.idx := rfl
@[simp] theorem State.beginPulse_bx (i : Index) (s : State) : (s.beginPulse i).bx = 1#2 := rfl
@[simp] theorem State.beginPulse_pcStart (i : Index) (s : State) : (s.beginPulse i).pcStart = i := rfl
@[simp] theorem State.beginPulse_pcEnd (i : Index) (s : State) : (s.beginPulse i).pcEnd = s.pcEnd := rfl
@[simp] theorem State.beginPulse_shift (i : Index) (s : State) : (s.beginPulse i).shift = s.shift := rfl
@[simp] theorem State.beginPulse_bcnt (i : Index) (s : State) : (s.beginPulse i).bcnt = s.bcnt := rfl
@[simp] theorem State.beginPulse_firstStart (i : Index) (s : State) : (s.beginPulse i).firstStart = s.firstStart := rfl
@[simp] theorem State.beginPulse_nibStart (i : Index) (s : State) : (s.beginPulse i).nibStart = s.nibStart := rfl
@[simp] theorem State.beginPulse_lastNext (i : Index) (s : State) : (s.beginPulse i).lastNext = s.lastNext := rfl
@[simp] theorem State.beginPulse_events (i : Index) (s : State) : (s.beginPulse i).events = s.events := rfl
@[simp] theorem State.beginPulse_rdata (i : Index) (s : State) : (s.beginPulse i).rdata = s.rdata := rfl
@[simp] theorem State.beginPulse_result (i : Index) (s : State) : (s.beginPulse i).result = s.result := rfl
@[simp] theorem State.beginPulse_input (i : Index) (s : State) : (s.beginPulse i).input = s.input := rfl

@[simp] theorem State.boundPulse_ctrl (i : Index) (s : State) : (s.boundPulse i).ctrl = s.ctrl := rfl
@[simp] theorem State.boundPulse_samplerate (i : Index) (s : State) : (s.boundPulse i).samplerate = s.samplerate := rfl
@[simp] theorem State.boundPulse_run (i : Index) (s : State) : (s.boundPulse i).run = s.run := rfl
@[simp] theorem State.boundPulse_fault (i : Index) (s : State) : (s.boundPulse i).fault = s.fault := rfl
@[simp] theorem State.boundPulse_period (i : Index) (s : State) : (s.boundPulse i).period = s.period := rfl
@[simp] theorem State.boundPulse_timeout (i : Index) (s : State) : (s.boundPulse i).timeout = s.timeout := rfl
@[simp] theorem State.boundPulse_prevValid (i : Index) (s : State) : (s.boundPulse i).prevValid = s.prevValid := rfl
@[simp] theorem State.boundPulse_prev (i : Index) (s : State) : (s.boundPulse i).prev = s.prev := rfl
@[simp] theorem State.boundPulse_idle (i : Index) (s : State) : (s.boundPulse i).idle = s.idle := rfl
@[simp] theorem State.boundPulse_idx (i : Index) (s : State) : (s.boundPulse i).idx = s.idx := rfl
@[simp] theorem State.boundPulse_bx (i : Index) (s : State) : (s.boundPulse i).bx = 2#2 := rfl
@[simp] theorem State.boundPulse_pcStart (i : Index) (s : State) : (s.boundPulse i).pcStart = s.pcStart := rfl
@[simp] theorem State.boundPulse_pcEnd (i : Index) (s : State) : (s.boundPulse i).pcEnd = i := rfl
@[simp] theorem State.boundPulse_shift (i : Index) (s : State) : (s.boundPulse i).shift = s.shift := rfl
@[simp] theorem State.boundPulse_bcnt (i : Index) (s : State) : (s.boundPulse i).bcnt = s.bcnt := rfl
@[simp] theorem State.boundPulse_firstStart (i : Index) (s : State) : (s.boundPulse i).firstStart = s.firstStart := rfl
@[simp] theorem State.boundPulse_nibStart (i : Index) (s : State) : (s.boundPulse i).nibStart = s.nibStart := rfl
@[simp] theorem State.boundPulse_lastNext (i : Index) (s : State) : (s.boundPulse i).lastNext = s.lastNext := rfl
@[simp] theorem State.boundPulse_events (i : Index) (s : State) : (s.boundPulse i).events = s.events := rfl
@[simp] theorem State.boundPulse_rdata (i : Index) (s : State) : (s.boundPulse i).rdata = s.rdata := rfl
@[simp] theorem State.boundPulse_result (i : Index) (s : State) : (s.boundPulse i).result = s.result := rfl
@[simp] theorem State.boundPulse_input (i : Index) (s : State) : (s.boundPulse i).input = s.input := rfl

@[simp] theorem State.closePulse_ctrl (s : State) : (s.closePulse).ctrl = s.ctrl := rfl
@[simp] theorem State.closePulse_samplerate (s : State) : (s.closePulse).samplerate = s.samplerate := rfl
@[simp] theorem State.closePulse_run (s : State) : (s.closePulse).run = s.run := rfl
@[simp] theorem State.closePulse_fault (s : State) : (s.closePulse).fault = s.fault := rfl
@[simp] theorem State.closePulse_period (s : State) : (s.closePulse).period = s.period := rfl
@[simp] theorem State.closePulse_timeout (s : State) : (s.closePulse).timeout = s.timeout := rfl
@[simp] theorem State.closePulse_prevValid (s : State) : (s.closePulse).prevValid = s.prevValid := rfl
@[simp] theorem State.closePulse_prev (s : State) : (s.closePulse).prev = s.prev := rfl
@[simp] theorem State.closePulse_idle (s : State) : (s.closePulse).idle = s.idle := rfl
@[simp] theorem State.closePulse_idx (s : State) : (s.closePulse).idx = s.idx := rfl
@[simp] theorem State.closePulse_bx (s : State) : (s.closePulse).bx = 0#2 := rfl
@[simp] theorem State.closePulse_pcStart (s : State) : (s.closePulse).pcStart = s.pcStart := rfl
@[simp] theorem State.closePulse_pcEnd (s : State) : (s.closePulse).pcEnd = s.pcEnd := rfl
@[simp] theorem State.closePulse_shift (s : State) : (s.closePulse).shift = s.shift := rfl
@[simp] theorem State.closePulse_bcnt (s : State) : (s.closePulse).bcnt = s.bcnt := rfl
@[simp] theorem State.closePulse_firstStart (s : State) : (s.closePulse).firstStart = s.firstStart := rfl
@[simp] theorem State.closePulse_nibStart (s : State) : (s.closePulse).nibStart = s.nibStart := rfl
@[simp] theorem State.closePulse_lastNext (s : State) : (s.closePulse).lastNext = s.lastNext := rfl
@[simp] theorem State.closePulse_events (s : State) : (s.closePulse).events = s.events := rfl
@[simp] theorem State.closePulse_rdata (s : State) : (s.closePulse).rdata = s.rdata := rfl
@[simp] theorem State.closePulse_result (s : State) : (s.closePulse).result = s.result := rfl
@[simp] theorem State.closePulse_input (s : State) : (s.closePulse).input = s.input := rfl

@[simp] theorem State.appendBit_ctrl (b : DecodedBit) (s : State) : (s.appendBit b).ctrl = s.ctrl := rfl
@[simp] theorem State.appendBit_samplerate (b : DecodedBit) (s : State) : (s.appendBit b).samplerate = s.samplerate := rfl
@[simp] theorem State.appendBit_run (b : DecodedBit) (s : State) : (s.appendBit b).run = s.run := rfl
@[simp] theorem State.appendBit_fault (b : DecodedBit) (s : State) : (s.appendBit b).fault = s.fault := rfl
@[simp] theorem State.appendBit_period (b : DecodedBit) (s : State) : (s.appendBit b).period = s.period := rfl
@[simp] theorem State.appendBit_timeout (b : DecodedBit) (s : State) : (s.appendBit b).timeout = s.timeout := rfl
@[simp] theorem State.appendBit_prevValid (b : DecodedBit) (s : State) : (s.appendBit b).prevValid = s.prevValid := rfl
@[simp] theorem State.appendBit_prev (b : DecodedBit) (s : State) : (s.appendBit b).prev = s.prev := rfl
@[simp] theorem State.appendBit_idle (b : DecodedBit) (s : State) : (s.appendBit b).idle = s.idle := rfl
@[simp] theorem State.appendBit_idx (b : DecodedBit) (s : State) : (s.appendBit b).idx = s.idx := rfl
@[simp] theorem State.appendBit_bx (b : DecodedBit) (s : State) : (s.appendBit b).bx = s.bx := rfl
@[simp] theorem State.appendBit_pcStart (b : DecodedBit) (s : State) : (s.appendBit b).pcStart = s.pcStart := rfl
@[simp] theorem State.appendBit_pcEnd (b : DecodedBit) (s : State) : (s.appendBit b).pcEnd = s.pcEnd := rfl
@[simp] theorem State.appendBit_shift (b : DecodedBit) (s : State) : (s.appendBit b).shift = s.shift.extractLsb' 0 15 ++ BitVec.ofBool b.value := rfl
@[simp] theorem State.appendBit_bcnt (b : DecodedBit) (s : State) : (s.appendBit b).bcnt = if s.bcnt = 31#5 then 31#5 else s.bcnt + 1#5 := rfl
@[simp] theorem State.appendBit_firstStart (b : DecodedBit) (s : State) : (s.appendBit b).firstStart = if s.bcnt = 0#5 then b.start else s.firstStart := rfl
@[simp] theorem State.appendBit_nibStart (b : DecodedBit) (s : State) : (s.appendBit b).nibStart = if s.bcnt = 12#5 then b.start else s.nibStart := rfl
@[simp] theorem State.appendBit_lastNext (b : DecodedBit) (s : State) : (s.appendBit b).lastNext = b.next := rfl
@[simp] theorem State.appendBit_events (b : DecodedBit) (s : State) : (s.appendBit b).events = s.events := rfl
@[simp] theorem State.appendBit_rdata (b : DecodedBit) (s : State) : (s.appendBit b).rdata = s.rdata := rfl
@[simp] theorem State.appendBit_result (b : DecodedBit) (s : State) : (s.appendBit b).result = s.result := rfl
@[simp] theorem State.appendBit_input (b : DecodedBit) (s : State) : (s.appendBit b).input = s.input := rfl

@[simp] theorem State.clearBuffer_ctrl (s : State) : s.clearBuffer.ctrl = s.ctrl := rfl
@[simp] theorem State.clearBuffer_samplerate (s : State) : s.clearBuffer.samplerate = s.samplerate := rfl
@[simp] theorem State.clearBuffer_run (s : State) : s.clearBuffer.run = s.run := rfl
@[simp] theorem State.clearBuffer_fault (s : State) : s.clearBuffer.fault = s.fault := rfl
@[simp] theorem State.clearBuffer_period (s : State) : s.clearBuffer.period = s.period := rfl
@[simp] theorem State.clearBuffer_timeout (s : State) : s.clearBuffer.timeout = s.timeout := rfl
@[simp] theorem State.clearBuffer_prevValid (s : State) : s.clearBuffer.prevValid = s.prevValid := rfl
@[simp] theorem State.clearBuffer_prev (s : State) : s.clearBuffer.prev = s.prev := rfl
@[simp] theorem State.clearBuffer_idle (s : State) : s.clearBuffer.idle = s.idle := rfl
@[simp] theorem State.clearBuffer_idx (s : State) : s.clearBuffer.idx = s.idx := rfl
@[simp] theorem State.clearBuffer_bx (s : State) : s.clearBuffer.bx = s.bx := rfl
@[simp] theorem State.clearBuffer_pcStart (s : State) : s.clearBuffer.pcStart = s.pcStart := rfl
@[simp] theorem State.clearBuffer_pcEnd (s : State) : s.clearBuffer.pcEnd = s.pcEnd := rfl
@[simp] theorem State.clearBuffer_shift (s : State) : s.clearBuffer.shift = 0#16 := rfl
@[simp] theorem State.clearBuffer_bcnt (s : State) : s.clearBuffer.bcnt = 0#5 := rfl
@[simp] theorem State.clearBuffer_firstStart (s : State) : s.clearBuffer.firstStart = 0#64 := rfl
@[simp] theorem State.clearBuffer_nibStart (s : State) : s.clearBuffer.nibStart = 0#64 := rfl
@[simp] theorem State.clearBuffer_lastNext (s : State) : s.clearBuffer.lastNext = 0#64 := rfl
@[simp] theorem State.clearBuffer_events (s : State) : s.clearBuffer.events = s.events := rfl
@[simp] theorem State.clearBuffer_rdata (s : State) : s.clearBuffer.rdata = s.rdata := rfl
@[simp] theorem State.clearBuffer_result (s : State) : s.clearBuffer.result = s.result := rfl
@[simp] theorem State.clearBuffer_input (s : State) : s.clearBuffer.input = s.input := rfl

end Sys2Proof.Machine
end

