-- ==== Sys2Proof/Laws/Units.lean ====
section
/-! SUPPORT. For each shared operation, once, everything it can do: the lemmas the proofs cite instead of
unfolding the units. -/

namespace Sys2Proof.Machine

/-! ### The record updates a bit makes -/

@[simp] theorem State.produceBit_eq (b : DecodedBit) (s : State) :
    s.produceBit b = (s.emit (bitEvent b)).appendBit b := rfl

@[simp] theorem bitEvent_start (b : DecodedBit) : (bitEvent b).start = b.start := rfl
@[simp] theorem bitEvent_stop (b : DecodedBit) : (bitEvent b).stop = b.next := rfl
@[simp] theorem bitEvent_cat (b : DecodedBit) : (bitEvent b).cat = 0#3 := rfl
@[simp] theorem bitEvent_payload (b : DecodedBit) :
    (bitEvent b).payload = (BitVec.ofBool b.value).setWidth 16 := rfl

@[simp] theorem decodedBit_start (n : Index) (s : State) : (decodedBit n s).start = s.pcStart := rfl
@[simp] theorem decodedBit_stop (n : Index) (s : State) : (decodedBit n s).stop = s.pcEnd := rfl
@[simp] theorem decodedBit_next (n : Index) (s : State) : (decodedBit n s).next = n := rfl
@[simp] theorem decodedBit_value (n : Index) (s : State) :
    (decodedBit n s).value = bitval s.pcStart s.pcEnd n := rfl

/-! ### Datapath functions -/

/-- BITVAL where R77 states its result. -/
theorem bitval_eq {a b c : Index} (hab : a.toNat ≤ b.toNat) (hac : a.toNat ≤ c.toNat) :
    bitval a b c = decide (2 * (b.toNat - a.toNat) > c.toNat - a.toNat) := by
  simp [bitval, hab, hac]

/-- The synthesized nextStart where R83 states it. -/
theorem synthesizedNext_toNat {a : Index} {n : Reg} (h : a.toNat + n.toNat < 2 ^ 64) :
    (synthesizedNext a n).toNat = a.toNat + n.toNat := by
  have hn : n.toNat < 2 ^ 64 := Nat.lt_of_lt_of_le n.isLt (by decide)
  simp only [synthesizedNext, h, if_true, BitVec.toNat_add, BitVec.toNat_setWidth]
  rw [Nat.mod_eq_of_lt hn, Nat.mod_eq_of_lt h]

/-- The inactivity count where R21 states it. -/
theorem idleSucc_toNat {c : Reg} (h : c.toNat + 1 < 2 ^ 32) : (idleSucc c).toNat = c.toNat + 1 := by
  simp only [idleSucc, h, if_true, BitVec.toNat_add]
  exact Nat.mod_eq_of_lt h

/-- Every period literal is one of the four of R5. -/
theorem periodLiteral_bounds (r : BitVec 2) : 83 ≤ periodLiteral r ∧ periodLiteral r ≤ 667 := by
  revert r; decide

/-- R63's bound: the largest N is 28647. -/
theorem nominalPeriod_le (sr : Reg) (r : BitVec 2) : nominalPeriod sr r ≤ 28647 := by
  have hM := (periodLiteral_bounds r).2
  have hs : sr.toNat ≤ 4294967295 := Nat.le_of_lt_succ sr.isLt
  have hmul := Nat.mul_le_mul hs hM
  simp only [nominalPeriod, Config.periodUnit]
  omega

/-! ### The frame boundary -/

/-- The events a boundary adds, by the count (43 R92). -/
def boundaryEvents (s : State) : List Event :=
  if s.bcnt = 0#5 then []
  else if s.bcnt = 16#5 then
    [classifierEvent s, checksumEvent s]
      ++ (if cksumCmp (frameExpected s) (frameFields s.shift).crcNibble then [] else [mismatchEvent s])
  else [badLengthEvent s]

/-- A frame's report adds the events of a boundary with 16 bits; it changes nothing else. -/
theorem State.reportFrame_eq (s : State) :
    s.reportFrame = { s with
      events := s.events ++ ([classifierEvent s, checksumEvent s]
        ++ (if cksumCmp (frameExpected s) (frameFields s.shift).crcNibble then [] else [mismatchEvent s])) } := by
  unfold State.reportFrame
  dsimp only
  split <;> simp [State.emit]

/-- A boundary adds its events and clears the buffer; it changes nothing else. -/
theorem State.boundary_eq (s : State) :
    s.boundary = ({ s with events := s.events ++ boundaryEvents s } : State).clearBuffer := by
  unfold State.boundary boundaryEvents State.reportFrame State.reportBadLength
  split
  · simp
  · split
    · dsimp only
      split <;> simp [State.emit]
    · simp [State.emit]

/-! ### The BitExtractor step -/

/-- Everything a BitExtractor step can do when it answers a next state: one of the source's four
transitions, or nothing. -/
theorem bxStep_cases {q : BitVec 2} {i : Index} {s t : State} (h : bxStep q i s = .next t) :
    s.bx ≠ 3#2 ∧
    ((t = s ∧ ¬(s.bx = 0#2 ∧ q = 1#2) ∧ ¬(s.bx = 1#2 ∧ q = 2#2) ∧ ¬(s.bx = 2#2 ∧ q = 1#2)
        ∧ ¬(s.bx = 2#2 ∧ q = 3#2)) ∨
     (s.bx = 0#2 ∧ q = 1#2 ∧ t = s.beginPulse i) ∨
     (s.bx = 1#2 ∧ q = 2#2 ∧ t = s.boundPulse i) ∨
     (s.bx = 2#2 ∧ q = 1#2 ∧ t = (s.produceBit (decodedBit i s)).beginPulse i) ∨
     (s.bx = 2#2 ∧ q = 3#2 ∧
        t = (s.produceBit (decodedBit (synthesizedNext s.pcStart s.period) s)).closePulse.boundary)) := by
  have key : ∀ b q : BitVec 2, b = 0#2 ∨ b = 1#2 ∨ b = 2#2 ∨ b = 3#2 := by decide
  rcases key s.bx q with hb | hb | hb | hb <;> rcases key q q with hq | hq | hq | hq <;>
    subst hq <;>
    simp [bxStep, bxSel, hb, qevNone, execBxReserved, execBxNop, execBxBegin, execBxIgnIdleEnd,
      execBxIgnIdleTmo, execBxIgnStartedStart, execBxBound, execBxIgnStartedTmo, execBxNext,
      execBxIgnBoundedEnd, execBxFinal] at h ⊢ <;>
    exact h.symm

/-- A BitExtractor step answers a next state in every state but the reserved one. -/
theorem bxStep_completes {q : BitVec 2} {i : Index} {s : State} (h : s.bx ≠ 3#2) :
    ∃ t, bxStep q i s = .next t := by
  unfold bxStep
  dsimp only
  simp only [h, if_false]
  repeat' split
  all_goals exact ⟨_, rfl⟩

/-! ### The EdgeWaiter step -/

/-- The condition a non-reference sample reports (30 R49). -/
def sampleCond (level : Bool) (s : State) : BitVec 2 :=
  if s.prev = level then (if timeoutDue s then 3#2 else 0#2)
  else if level then 1#2 else 2#2

/-- A non-reference sample is a wait return with its condition. -/
theorem edgeWaiterStep_eq {level : Bool} {s : State} (hv : s.prevValid = true) :
    edgeWaiterStep level s = waitReturn (sampleCond level s) level s := by
  cases hp : s.prev <;> cases level <;>
    simp [edgeWaiterStep, sampleCond, hv, hp, execEdgeRise, execEdgeFall, execTimeout, execWaitNone,
      condRise, condFall, condInactive, condNone] <;> split <;> rfl

/-- A wait return that answers a next state did not pass the last index, and is a BitExtractor step on the
EdgeWaiter's new registers. -/
theorem waitReturn_next {c : BitVec 2} {level : Bool} {s t : State} (h : waitReturn c level s = .next t) :
    s.idx ≠ BitVec.allOnes 64 ∧
      bxStep (qualify c (bidir s)) (s.idx + 1#64) (s.advance c level) = .next t := by
  unfold waitReturn at h
  split at h
  · cases h
  · exact ⟨‹_›, h⟩

/-- Everything a SAMPLE can do when it answers a next state. -/
theorem execSample_cases {level : Bool} {s t : State} (h : execSample level s = .next t) :
    (s.run ≠ .running ∧ t = s) ∨
    (s.run = .running ∧ s.prevValid = false ∧ t = s.reference level) ∨
    (s.run = .running ∧ s.prevValid = true ∧ s.idx ≠ BitVec.allOnes 64 ∧
      bxStep (qualify (sampleCond level s) (bidir s)) (s.idx + 1#64)
        (s.advance (sampleCond level s) level) = .next t) := by
  unfold execSample at h
  split at h
  · rename_i hr
    cases hv : s.prevValid with
    | false =>
      refine .inr (.inl ⟨hr, rfl, ?_⟩)
      simp [edgeWaiterStep, hv, execRefSample] at h
      exact h.symm
    | true =>
      rw [edgeWaiterStep_eq hv] at h
      exact .inr (.inr ⟨hr, rfl, waitReturn_next h⟩)
  · cases h
    exact .inl ⟨‹_›, rfl⟩

/-! ### Host commands -/

/-- Everything a register write can do. -/
theorem writeReg_cases (a : BitVec 4) (d : Reg) (s : State) :
    (a = 0#4 ∧ writeReg a d s = { s with ctrl := (d.extractLsb' 0 3).setWidth 32 }) ∨
    (a = 1#4 ∧ writeReg a d s = { s with samplerate := d }) ∨
    (a ≠ 0#4 ∧ a ≠ 1#4 ∧ writeReg a d s = s) := by
  unfold writeReg
  split
  · exact .inl ⟨‹_›, rfl⟩
  · split
    · exact .inr (.inl ⟨‹_›, rfl⟩)
    · exact .inr (.inr ⟨‹_›, ‹_›, rfl⟩)

/-- A CFGW leaves the state or writes its register, the latter only outside RUNNING. -/
theorem execCfgw_cases (a : BitVec 4) (d : Reg) (s : State) :
    (s.run = .running ∧ execCfgw a d s = .next s) ∨
    (s.run ≠ .running ∧ execCfgw a d s = .next (writeReg a d s)) := by
  unfold execCfgw
  split
  · exact .inl ⟨‹_›, rfl⟩
  · exact .inr ⟨‹_›, rfl⟩

/-- Everything a START can do. -/
theorem execStart_cases (s : State) :
    (s.run = .running ∧ execStart s = .next s) ∨
    (s.run ≠ .running ∧ s.samplerate = 0#32 ∧
      execStart s = .next (s.clearDatapath.raiseFault 1#4)) ∨
    (s.run ≠ .running ∧ s.samplerate ≠ 0#32 ∧ nominalPeriod s.samplerate (rate s) = 0 ∧
      execStart s = .next (s.clearDatapath.raiseFault 2#4)) ∨
    (s.run ≠ .running ∧ s.samplerate ≠ 0#32 ∧ nominalPeriod s.samplerate (rate s) ≠ 0 ∧
      execStart s = .next (s.clearDatapath.enterRunning (nominalPeriod s.samplerate (rate s)))) := by
  unfold execStart
  dsimp only
  split
  · exact .inl ⟨‹_›, rfl⟩
  · split
    · exact .inr (.inl ⟨‹_›, ‹_›, rfl⟩)
    · split
      · exact .inr (.inr (.inl ⟨‹_›, ‹_›, ‹_›, rfl⟩))
      · exact .inr (.inr (.inr ⟨‹_›, ‹_›, ‹_›, rfl⟩))

/-- A step takes the oldest input: none, the reset line, or a command, which exec runs unless bx is
reserved. -/
theorem step_cases (s : State) :
    (s.input = [] ∧ step s = .next s.undriven) ∨
    (∃ rest, s.input = .resetLine :: rest ∧ step s = .next { State.reset with input := rest }) ∨
    (∃ w rest, s.input = .command w :: rest ∧ s.bx = 3#2 ∧ step s = .fault .reservedBxState) ∨
    (∃ w rest, s.input = .command w :: rest ∧ s.bx ≠ 3#2 ∧
      step s = exec (decodeHost w) { s.undriven with input := rest }) := by
  rcases hin : s.input with _ | ⟨_ | _, rest⟩
  · exact .inl ⟨rfl, by simp [step, fetch, hin]⟩
  · by_cases hb : s.bx = 3#2
    · exact .inr (.inr (.inl ⟨_, rest, rfl, hb, by simp [step, fetch, hin, hb]⟩))
    · exact .inr (.inr (.inr ⟨_, rest, rfl, hb, by simp [step, fetch, hin, hb]⟩))
  · exact .inr (.inl ⟨rest, rfl, by simp [step, fetch, hin]⟩)

/-- The decoder of host words answers one of the five commands or a reserved OP. -/
theorem decodeHost_cases (w : CommandWord) :
    (∃ a d, decodeHost w = .cfgw a d) ∨ (∃ a, decodeHost w = .cfgr a) ∨ decodeHost w = .start ∨
    (∃ l, decodeHost w = .sample l) ∨ decodeHost w = .endStream ∨
    (∃ a d, decodeHost w = .reservedZero a d) ∨ (∃ o a d, decodeHost w = .reservedSix o a d) ∨
    (∃ o a d, decodeHost w = .reservedHigh o a d) := by
  unfold decodeHost
  dsimp only
  repeat' split
  all_goals simp

end Sys2Proof.Machine
end

