-- ==== Sys2Proof/Laws/Safety.lean ====
section
/-! SUPPORT. What the invariant and the buffer's representation read of the state. -/

namespace Sys2Proof.Safety

open Sys2Proof.Machine

/-- `Represents` reads the five buffer registers alone. -/
theorem Represents.congr {bits : List DecodedBit} {s t : State} (h : Represents bits s)
    (shift : t.shift = s.shift) (bcnt : t.bcnt = s.bcnt) (first : t.firstStart = s.firstStart)
    (nib : t.nibStart = s.nibStart) (last : t.lastNext = s.lastNext) : Represents bits t :=
  ⟨bcnt ▸ h.count, shift ▸ h.values, first ▸ h.first, nib ▸ h.nibble, last ▸ h.last⟩

/-- A cleared buffer represents the empty one. -/
theorem BufferClear.represents {s : State} (h : BufferClear s) : Represents [] s :=
  ⟨by simp [h.bcnt], by simp [h.shift], by simp [h.firstStart], by simp [h.nibStart], by simp [h.lastNext]⟩

theorem bufferClear_clearBuffer (s : State) : BufferClear s.clearBuffer := ⟨rfl, rfl, rfl, rfl, rfl⟩

/-- The invariant does not read the ports, the returned value or the input list. -/
theorem Inv.withPorts {s : State} (h : Inv s) (rdata : Option Reg) (result : Option Result)
    (input : List HostInput) : Inv { s with rdata := rdata, result := result, input := input } where
  control := ⟨h.control.1, h.control.2, h.control.3, h.control.4, h.control.5, h.control.6, h.control.7, h.control.8⟩
  pulse := ⟨fun e => let p := h.pulse.1 e; ⟨p.1, p.2, p.3, p.4, p.5, p.6⟩, h.pulse.2, h.pulse.3, h.pulse.4, h.pulse.5,
    h.pulse.6, h.pulse.7, h.pulse.8, h.pulse.9⟩
  buffer := ⟨h.buffer.1, fun e => let p := h.buffer.2 e; ⟨p.1, p.2, p.3, p.4, p.5⟩, h.buffer.3, h.buffer.4, h.buffer.5,
    h.buffer.6⟩
  events_legal := h.events_legal

end Sys2Proof.Safety
end

