-- ==== Sys2Proof/Machine/Assembler.lean ====
section
/-! DEFINITION. The textual notation for command sequences and its pseudo-instructions (30_encoding R58).
It is a notation for the host's programs; no step reads it. Text is a list of characters. -/

namespace Sys2Proof.Machine

/-- One line of the notation. -/
inductive Statement where
  /-- `CFGW <reg>, <value>` -/
  | cfgw (reg : BitVec 4) (value : Reg)
  /-- `CFGR <reg>` -/
  | cfgr (reg : BitVec 4)
  /-- `START` -/
  | start
  /-- `SAMPLE <0|1>` -/
  | sample (level : Bool)
  /-- `END` -/
  | endStream
  /-- `MODE <rate>, <bidir>`, with code(rate) -/
  | mode (code : BitVec 2) (bidir : Bool)
  /-- `SAMPLES "<digits>"` -/
  | samples (levels : List Bool)
  /-- `HOLD <level>, <n>` -/
  | hold (level : Bool) (n : Nat)
  /-- `CELL <level>, <h>, <l>` -/
  | cell (level : Bool) (h l : Nat)
deriving DecidableEq, Repr

/-- The word of `SAMPLE level`. -/
def sampleWord (level : Bool) : CommandWord :=
  commandWord 4#4 0#4 (if level then 1#32 else 0#32)

/-- The command words a line stands for (R58's two tables). -/
def Statement.expand : Statement → List CommandWord
  | .cfgw reg value => [commandWord 1#4 reg value]
  | .cfgr reg => [commandWord 2#4 reg 0#32]
  | .start => [commandWord 3#4 0#4 0#32]
  | .sample level => [sampleWord level]
  | .endStream => [commandWord 5#4 0#4 0#32]
  | .mode code bidir => [commandWord 1#4 0#4 ((code ++ BitVec.ofBool bidir).setWidth 32)]
  | .samples levels => levels.map sampleWord
  | .hold level n => List.replicate n (sampleWord level)
  | .cell level h l => List.replicate h (sampleWord level) ++ List.replicate l (sampleWord !level)

/-- The lexical elements of a line. -/
inductive Token where
  | word (cs : List Char)
  | comma
  | quoted (cs : List Char)
deriving DecidableEq, Repr

/-- The double quote character. -/
def quoteChar : Char := Char.ofNat 34

/-- Close the word being read, if there is one (its characters come newest first). -/
def flushWord (w : List Char) (ts : List Token) : List Token :=
  if w.isEmpty then ts else .word w.reverse :: ts

/-- The tokens of a line; `;` starts a comment. `quote` holds the characters read since an open quote.
An unclosed quote is no line. -/
def lexLine : (text : List Char) → (w : List Char) → (quote : Option (List Char)) → Option (List Token)
  | [], w, none => some (flushWord w [])
  | [], _, some _ => none
  | c :: rest, w, some q =>
    if c = quoteChar then (lexLine rest w none).map (.quoted q.reverse :: ·)
    else lexLine rest w (some (c :: q))
  | c :: rest, w, none =>
    if c = ';' then some (flushWord w [])
    else if c = quoteChar then (lexLine rest [] (some [])).map (flushWord w)
    else if c = ',' then (lexLine rest [] none).map (fun ts => flushWord w (.comma :: ts))
    else if c = ' ' ∨ c = '\t' then (lexLine rest [] none).map (flushWord w)
    else lexLine rest (c :: w) none

/-- A decimal or hexadecimal digit's value. -/
def digitValue (c : Char) : Option Nat :=
  let n := c.toNat
  if 48 ≤ n ∧ n ≤ 57 then some (n - 48)
  else if 65 ≤ n ∧ n ≤ 70 then some (n - 55)
  else if 97 ≤ n ∧ n ≤ 102 then some (n - 87)
  else none

/-- The number that digits of a base denote, added to what has been read. -/
def digitsValue (base : Nat) : List Char → Nat → Option Nat
  | [], acc => some acc
  | c :: rest, acc =>
    match digitValue c with
    | some d => if d < base then digitsValue base rest (acc * base + d) else none
    | none => none

/-- A number: decimal, or hexadecimal with a `0x` prefix. -/
def number : List Char → Option Nat
  | [] => none
  | '0' :: 'x' :: d :: rest => digitsValue 16 (d :: rest) 0
  | d :: rest => digitsValue 10 (d :: rest) 0

/-- A number below a bound. -/
def numberBelow (bound : Nat) (cs : List Char) : Option Nat :=
  match number cs with
  | some n => if n < bound then some n else none
  | none => none

/-- A register: its name, or a number 0 to 15. -/
def registerOf (cs : List Char) : Option (BitVec 4) :=
  if cs = ['C', 'T', 'R', 'L'] then some 0#4
  else if cs = ['S', 'A', 'M', 'P', 'L', 'E', 'R', 'A', 'T', 'E'] then some 1#4
  else if cs = ['S', 'T', 'A', 'T', 'U', 'S'] then some 2#4
  else if cs = ['P', 'E', 'R', 'I', 'O', 'D'] then some 3#4
  else if cs = ['T', 'I', 'M', 'E', 'O', 'U', 'T'] then some 4#4
  else (numberBelow 16 cs).map (BitVec.ofNat 4)

/-- A level or a flag: 0 or 1. -/
def levelOf (cs : List Char) : Option Bool := (numberBelow 2 cs).map (· = 1)

/-- code(rate) (R58). -/
def rateCode (cs : List Char) : Option (BitVec 2) :=
  match number cs with
  | some 150 => some 0#2
  | some 300 => some 1#2
  | some 600 => some 2#2
  | some 1200 => some 3#2
  | _ => none

/-- The digits of `SAMPLES`: 0 and 1; spaces and `_` are ignored. -/
def sampleDigits : List Char → Option (List Bool)
  | [] => some []
  | c :: rest =>
    if c = ' ' ∨ c = '_' then sampleDigits rest
    else if c = '0' then (sampleDigits rest).map (false :: ·)
    else if c = '1' then (sampleDigits rest).map (true :: ·)
    else none

/-- The statement a line's tokens spell; `some none` for an empty line, `none` where they spell none. -/
def parseTokens : List Token → Option (Option Statement)
  | [] => some none
  | [.word op] =>
    if op = ['S', 'T', 'A', 'R', 'T'] then some (some .start)
    else if op = ['E', 'N', 'D'] then some (some .endStream)
    else none
  | [.word op, .quoted ds] =>
    if op = ['S', 'A', 'M', 'P', 'L', 'E', 'S'] then
      (sampleDigits ds).map (fun ls => some (.samples ls))
    else none
  | [.word op, .word x] =>
    if op = ['C', 'F', 'G', 'R'] then (registerOf x).map (fun r => some (.cfgr r))
    else if op = ['S', 'A', 'M', 'P', 'L', 'E'] then (levelOf x).map (fun l => some (.sample l))
    else none
  | [.word op, .word x, .comma, .word y] =>
    if op = ['C', 'F', 'G', 'W'] then
      match registerOf x, numberBelow (2 ^ 32) y with
      | some r, some v => some (some (.cfgw r (BitVec.ofNat 32 v)))
      | _, _ => none
    else if op = ['M', 'O', 'D', 'E'] then
      match rateCode x, levelOf y with
      | some c, some b => some (some (.mode c b))
      | _, _ => none
    else if op = ['H', 'O', 'L', 'D'] then
      match levelOf x, number y with
      | some l, some n => some (some (.hold l n))
      | _, _ => none
    else none
  | [.word op, .word x, .comma, .word y, .comma, .word z] =>
    if op = ['C', 'E', 'L', 'L'] then
      match levelOf x, number y, number z with
      | some l, some h, some k => some (some (.cell l h k))
      | _, _, _ => none
    else none
  | _ => none

/-- The command words of one line. -/
def assembleLine (text : List Char) : Option (List CommandWord) :=
  match lexLine text [] none with
  | some ts =>
    match parseTokens ts with
    | some (some st) => some st.expand
    | some none => some []
    | none => none
  | none => none

/-- The lines of a text. -/
def splitLines : List Char → List (List Char)
  | [] => [[]]
  | c :: rest =>
    match splitLines rest with
    | [] => [[c]]
    | l :: ls => if c = '\n' then [] :: l :: ls else (c :: l) :: ls

/-- The command words of a text, one command per line; `none` if a line spells none. -/
def assembleLines : List (List Char) → Option (List CommandWord)
  | [] => some []
  | l :: ls =>
    match assembleLine l, assembleLines ls with
    | some ws, some more => some (ws ++ more)
    | _, _ => none

/-- The command words of a text. -/
def assemble (text : List Char) : Option (List CommandWord) := assembleLines (splitLines text)

end Sys2Proof.Machine
end

