-- ==== Sys2Proof/Tests/Slice0.lean ====
section
/-! SUPPORT. Tests of the model, each with the source of its expected value, and a witness for the
hypotheses of every statement that has some. -/

namespace Sys2Proof.Tests

open Sys2Proof Sys2Proof.Machine Sys2Proof.Safety

/-! ### Small states -/

/-- What a field of the next state is, where there is one. -/
def after {α : Type} (o : Out) (f : State → α) : Option α :=
  match o with
  | .next s => some (f s)
  | .fault _ => none
  | .refused _ => none

/-- The next state, where there is one. -/
def next (o : Out) : Option State := after o id

/-- The fault an instruction stops with. -/
def faultOf (o : Out) : Option Fault :=
  match o with
  | .fault r => some r
  | .next _ => none
  | .refused _ => none

/-- The refusal an instruction stops with. -/
def refusalOf (o : Out) : Option Refusal :=
  match o with
  | .refused r => some r
  | .next _ => none
  | .fault _ => none

/-- A run with N = 6 and TIMEOUT = 18 (95 H9), after its reference sample at level 0. -/
def live : State :=
  { State.reset with samplerate := 900000#32, run := .running, period := 6#32, timeout := 18#32, prevValid := true }

/-- That run before its first sample. -/
def fresh : State := { live with prevValid := false }

/-- Bounded over [a, b], on a line back at level 0 with `c` samples since the end edge. -/
def bounded (a b c : Nat) : State :=
  { live with
    bx := 2#2, pcStart := BitVec.ofNat 64 a, pcEnd := BitVec.ofNat 64 b, idx := BitVec.ofNat 64 (b + c), idle := BitVec.ofNat 32 c }

/-- A buffer of `n` bits with shift register `f` that began at 2, with bits[12] at 74, ready for a last bit. -/
def buffered (n : Nat) (f : BitVec 16) (s : State) : State :=
  { s with bcnt := BitVec.ofNat 5 n, shift := f, firstStart := 2#64, nibStart := if 13 ≤ n then 74#64 else 0#64, lastNext := s.pcStart }

/-! ### WellFormed: each check refuses an ill-formed term -/

theorem test_wellFormed_refuses_reserved_nop : (Instr.bxNop 3#2).wellFormed = false := by decide
theorem test_wellFormed_refuses_badlen_of_zero : (Instr.flushBadlen 0#5).wellFormed = false := by decide
theorem test_wellFormed_refuses_badlen_of_sixteen : (Instr.flushBadlen 16#5).wellFormed = false := by decide
theorem test_wellFormed_accepts_their_neighbours :
    (Instr.bxNop 2#2).wellFormed = true ∧ (Instr.flushBadlen 31#5).wellFormed = true := by decide

/-! ### Decoding, with words written out from the spec's encodings -/

/-- The words of 30 R58 and the reserved words of 30 R47. -/
theorem test_decode_host :
    [0x1000000003#40, 0x11000DBBA0#40, 0x2200000000#40, 0x3000000000#40, 0x4000000001#40, 0x4000000000#40, 0x5000000000#40,
      0x0A00000007#40, 0x6100000002#40, 0x7100000002#40, 0x8000000000#40, 0xFFFFFFFFFF#40].map decodeHost =
    [.cfgw 0#4 3#32, .cfgw 1#4 900000#32, .cfgr 2#4, .start, .sample true, .sample false, .endStream,
      .reservedZero 10#4 7#32, .reservedSix 0#1 1#4 2#32, .reservedSix 1#1 1#4 2#32, .reservedHigh 0#3 0#4 0#32,
      .reservedHigh 7#3 15#4 0xFFFFFFFF#32] := by decide

/-- The patterns of 30 R49, {v,t,e,s}. -/
theorem test_decode_wait :
    [0b0000#4, 0b0111#4, 0b1000#4, 0b1001#4, 0b1011#4, 0b1111#4, 0b1010#4, 0b1110#4, 0b1100#4, 0b1101#4].map decodeWait =
    [.refSample false false false, .refSample true true true, .waitNone false, .waitNone true, .edgeRise false,
      .edgeRise true, .edgeFall false, .edgeFall true, .timeout false, .timeout true] := by decide

/-- The fields of 30 R50. -/
theorem test_decode_qualify :
    [0b001#3, 0b110#3].map decodeQualify = [.qualify false 1#2, .qualify true 2#2] := by decide

/-- The patterns of 30 R51, {bx,qev}, at all sixteen values. -/
theorem test_decode_bx :
    [0b0000#4, 0b0001#4, 0b0010#4, 0b0011#4, 0b0100#4, 0b0101#4, 0b0110#4, 0b0111#4, 0b1000#4, 0b1001#4, 0b1010#4,
      0b1011#4, 0b1100#4, 0b1101#4, 0b1110#4, 0b1111#4].map (decodeBx · 9#64) =
    [.bxNop 0#2, .bxBegin 9#64, .bxIgnIdleEnd, .bxIgnIdleTmo, .bxNop 1#2, .bxIgnStartedStart, .bxBound 9#64,
      .bxIgnStartedTmo, .bxNop 2#2, .bxNext 9#64, .bxIgnBoundedEnd, .bxFinal, .bxReserved 0#2, .bxReserved 1#2,
      .bxReserved 2#2, .bxReserved 3#2] := by decide

/-- The selectors of 30 R53. -/
theorem test_decode_flush :
    [0b00000#5, 0b10000#5, 0b01001#5, 0b11111#5].map decodeFlush =
      [.flushEmpty, .flushFrame, .flushBadlen 9#5, .flushBadlen 31#5] := by decide

theorem test_decode_cksum :
    [0#1, 1#1].map (decodeCksum · 20#12) = [.cksumStd 20#12, .cksumBidir 20#12] := by decide

/-- The seven rows without a selecting pattern (30 R53) have no word. -/
theorem test_called_functions_have_no_word :
    [encode .flushClear, encode (.bitval 0 0 0), encode (.append ⟨0, 0, 0, true⟩), encode (.frameFields 0), encode (.cksumFold 0),
      encode (.cksumCmp 0 0), encode (.classify 0)] = List.replicate 7 none := by decide

theorem test_decodeBits_rejects_by_name :
    decodeBits 16 0 = .error .wrongLength ∧ decodeBits 40 (2 ^ 40) = .error .tooWide ∧ decodeBits 8 32 = .error .tooWide := by
  exact ⟨rfl, rfl, rfl⟩

/-- Host rows as they are; bytes below 16 as BX selectors and above as FLUSH selectors (log entry 7). -/
theorem test_decodeTableWord :
    decodeTableWord 40 0x11000DBBA0 = some (.cfgw 1#4 900000#32) ∧ decodeTableWord 8 0xB = some .bxFinal ∧
    decodeTableWord 8 0x10 = some .flushFrame ∧ decodeTableWord 16 0 = none := by decide

/-! ### The step and its fetch -/

/-- The words of 95 section 2.1 run as the first instruction after reset. -/
theorem test_withFetchWord_runs_commands :
    next (step (State.reset.withFetchWord 40 0x11000DBBA0)) = next (exec (.cfgw 1#4 900000#32) State.reset) ∧
    next (step (State.reset.withFetchWord 40 0x3000000000)) = next (exec .start State.reset) := by decide

/-- A SAMPLE that performs BX_BEGIN: a rising edge at index 1 in Idle (42 R80). -/
theorem test_withFetchWord_performs_a_bx_row :
    after (step (State.reset.withFetchWord 8 0x1)) (fun s => (s.bx, s.pcStart, s.idx)) = some (1#2, 1#64, 1#64) := by decide

/-- Index of the reserved row: the step faults (42 R89). -/
theorem test_withFetchWord_of_the_reserved_state :
    faultOf (step (State.reset.withFetchWord 8 0xC)) = some .reservedBxState := by decide

theorem test_core_is_the_machine : Sys2Proof.core.reset = State.reset := rfl

/-- 95 H2 with H4, H9 and H13, as one text of 30 R58's notation. -/
theorem test_assemble :
    assemble ['M', 'O', 'D', 'E', ' ', '3', '0', '0', ',', ' ', '1', ' ', ';', ' ', 'x', '\n', 'C', 'F', 'G', 'R', ' ', '7',
      '\n', 'C', 'E', 'L', 'L', ' ', '1', ',', '2', ',', '1', '\n', 'S', 'T', 'A', 'R', 'T'] =
    some [0x1000000003#40, 0x2700000000#40, 0x4000000001#40, 0x4000000001#40, 0x4000000000#40, 0x3000000000#40] := by decide

/-- 30 R58: spaces and `_` in SAMPLES are ignored, hexadecimal values, and a text that spells no line. -/
theorem test_assemble_samples :
    assemble (['S', 'A', 'M', 'P', 'L', 'E', 'S', ' ', quoteChar, '0', '_', '1', ' ', quoteChar]) =
      some [0x4000000000#40, 0x4000000001#40] ∧
    assemble ['C', 'F', 'G', 'W', ' ', '2', ',', '0', 'x', 'F', 'f'] = some [0x12000000FF#40] ∧
    assemble ['S', 'A', 'M', 'P', 'L', 'E', ' ', '2'] = none := by decide

/-! ### Host commands (95 section 2.1) -/

theorem test_cfgw_ctrl_H3 : after (exec (.cfgw 0#4 0xFFFFFFFF#32) State.reset) State.ctrl = some 7#32 := by decide
theorem test_cfgw_without_effect_H10_H5 :
    next (exec (.cfgw 0#4 1#32) live) = some live ∧
    next (exec (.cfgw 2#4 5#32) State.reset) = some State.reset := by decide
theorem test_cfgr_status_H17 :
    after (exec (.cfgr 2#4) { bounded 2 4 0 with bcnt := 9#5 }) State.rdata = some (some 0x00002601#32) := by decide
theorem test_cfgr_reserved_H6 : after (exec (.cfgr 7#4) live) State.rdata = some (some 0#32) := by decide
theorem test_start_faults_H7_H8 :
    after (exec .start State.reset) statusWord = some 0x00000012#32 ∧
    after (exec .start { State.reset with samplerate := 100#32 }) statusWord = some 0x00000022#32 := by decide
theorem test_start_H9 : next (exec .start { State.reset with samplerate := 900000#32 }) = some fresh := by decide
/-- 95 section 2.2. -/
theorem test_period_table :
    [nominalPeriod 24000000 0, nominalPeriod 24000000 1, nominalPeriod 24000000 2, nominalPeriod 24000000 3,
      nominalPeriod 1800000 1, nominalPeriod 1204820 3, nominalPeriod 1204819 3, nominalPeriod 149926 0,
      nominalPeriod 149925 0, nominalPeriod 4294967295 0, nominalPeriod 4294967295 3] =
    [160, 79, 40, 19, 5, 1, 0, 1, 0, 28647, 3564] := by decide
theorem test_sample_H12_H13 :
    next (exec (.sample true) State.reset) = some State.reset ∧
    next (exec (.sample true) fresh) = some { fresh with prev := true, prevValid := true } := by decide
/-- 95 section 2.5, vector tie: the rising edge at 22 coincides with the timeout and is a BX_NEXT. -/
theorem test_sample_tie :
    after (exec (.sample true) (bounded 2 4 17)) (fun s => (s.bx, s.idle, s.pcStart, s.events)) =
      some (1, 0, 22, [⟨2, 22, 0, 0⟩]) := by decide
theorem test_end_H14 : after (exec .endStream live) statusWord = some 3#32 := by decide
theorem test_end_H15 : next (exec .endStream { live with run := .exhausted }) = some { live with run := .exhausted } := by decide
theorem test_reserved_H16 :
    [exec (.reservedZero 0 0) live, exec (.reservedSix 1 2 3) live, exec (.reservedHigh 7 15 0xFFFFFFFF) live].map next =
      List.replicate 3 (some live) := by decide

/-! ### EdgeWaiter (95 sections 2.3 and 2.4, and the examples of 41) -/

theorem test_refSample_R68 :
    after (exec (.refSample true false true) fresh) (fun s => (s.prev, s.prevValid, s.idx)) = some (true, true, 0#64) := by decide
/-- 41 R69's example: idle 4 gives 5. -/
theorem test_waitNone_R69 :
    after (exec (.waitNone false) { live with idle := 4#32 }) (fun s => (s.idle, s.prev)) = some (5#32, false) := by decide
/-- 41 R70's example: a rising edge at index 2. -/
theorem test_edgeRise_R70 :
    after (exec (.edgeRise false) { live with idx := 1#64, idle := 1#32 }) (fun s => (s.pcStart, s.bx, s.idle, s.prev)) =
      some (2#64, 1#2, 0#32, true) := by decide
/-- 95 W9: in bidirectional mode a falling edge at 2 is a start edge. -/
theorem test_edgeFall_W9 :
    after (exec (.edgeFall false) { live with ctrl := 1#32, prev := true, idx := 1#64 }) (fun s => (s.pcStart, s.bx, s.prev)) =
      some (2#64, 1#2, false) := by decide
/-- 95 W4: the timeout at index 18 of a quiet line. -/
theorem test_timeout_W4 :
    after (exec (.sample false) { live with idx := 17#64, idle := 17#32 }) (fun s => (s.idx, s.idle, s.events)) =
      some (18#64, 0#32, []) := by decide
/-- The TIMEOUT row by itself ends the bit of 95 X4. -/
theorem test_timeout_X4 :
    after (exec (.timeout false) (bounded 92 96 17)) (fun s => (s.bx, s.idx, s.events)) =
      some (0#2, 114#64, [⟨92, 98, 0, 1⟩, ⟨92, 98, 4, 1⟩]) := by decide
theorem test_qualify_table :
    [0, 1, 2, 3].map (fun c => after (exec (.qualify false c) live) State.result) =
      [0, 1, 2, 3].map (fun q => some (some (.qev q))) ∧
    [0, 1, 2, 3].map (fun c => after (exec (.qualify true c) live) State.result) =
      [0, 2, 1, 3].map (fun q => some (some (.qev q))) := by decide

/-! ### BitExtractor (95 section 2.5) -/

theorem test_bitval_table :
    [bitval 2 4 8, bitval 2 6 8, bitval 0 3 6, bitval 2 5 8, bitval 0 4 7, bitval 92 96 98, bitval 92 96 104,
      bitval 2 30 8, bitval 0 1 2, bitval 0 1 1] =
    [false, true, false, false, true, true, false, true, false, true] := by decide
theorem test_bitval_returns : after (exec (.bitval 92 96 98) live) State.result = some (some (.bit true)) := by decide
theorem test_bxBegin_X1 : after (exec (.bxBegin 2) live) (fun s => (s.bx, s.pcStart)) = some (1, 2) := by decide
theorem test_bxBound_X2 :
    after (exec (.bxBound 4) { live with bx := 1, pcStart := 2 }) (fun s => (s.bx, s.pcStart, s.pcEnd)) = some (2, 2, 4) := by decide
theorem test_bxNext_X3 :
    after (exec (.bxNext 8) (bounded 2 4 3)) (fun s => (s.bx, s.pcStart, s.bcnt, s.events)) =
      some (1, 8, 1, [⟨2, 8, 0, 0⟩]) := by decide
theorem test_bxFinal_P1 :
    after (exec .bxFinal (buffered 15 0x00A2 (bounded 92 96 17))) State.events =
      some [⟨92, 98, 0, 1⟩, ⟨2, 74, 1, 10⟩, ⟨74, 98, 3, 0x55⟩] := by decide
theorem test_bx_without_effect :
    [exec (.bxNop 1) live, exec .bxIgnIdleEnd live, exec .bxIgnIdleTmo live, exec .bxIgnStartedStart live,
      exec .bxIgnStartedTmo live, exec .bxIgnBoundedEnd live].map next = List.replicate 6 (some live) := by decide
theorem test_bxReserved_V7 : faultOf (exec (.bxReserved 2) live) = some .reservedBxState := by decide

/-! ### FrameAssembler, ChecksumEngine, Classifier (95 sections 2.6 to 2.9) -/

theorem test_append_F1 :
    after (exec (.append ⟨2, 4, 8, false⟩) live) (fun s => (s.bcnt, s.firstStart, s.lastNext, s.shift)) =
      some (1, 2, 8, 0) := by decide
theorem test_append_F3 :
    after (exec (.append ⟨2, 4, 8, false⟩) (buffered 31 0xFFFF live)) (fun s => (s.bcnt, s.shift)) = some (31, 0xFFFE) := by decide
theorem test_frameFields_table :
    [0x0145, 0x7D00, 0x05FA, 0x82D7].map frameFields =
      [⟨10, false, 5, 20⟩, ⟨1000, false, 0, 2000⟩, ⟨47, true, 10, 95⟩, ⟨1046, true, 7, 2093⟩] := by decide
theorem test_frameFields_returns :
    after (exec (.frameFields 0x0145) live) State.result = some (some (.fields ⟨10, false, 5, 20⟩)) := by decide
theorem test_flushEmpty_R94 : next (exec .flushEmpty live) = some live := by decide
theorem test_flushFrame_F5 :
    after (exec .flushFrame (buffered 16 0x7D00 (bounded 98 99 0))) State.events =
      some [⟨2, 74, 2, 0x3E8⟩, ⟨74, 98, 3, 0xA0⟩, ⟨74, 98, 4, 2⟩] := by decide
theorem test_flushFrame_F7 :
    after (exec .flushFrame { buffered 16 0 (bounded 98 99 0) with ctrl := 1 }) State.events =
      some [⟨2, 74, 1, 0⟩, ⟨74, 98, 3, 0xF0⟩, ⟨74, 98, 4, 2⟩] := by decide
theorem test_flushBadlen_F8 :
    after (exec (.flushBadlen 9) (buffered 9 0 (bounded 56 57 0))) State.events = some [⟨2, 56, 4, 1⟩] := by decide
theorem test_flushClear_F11 :
    after (exec .flushClear (buffered 9 0xFF (bounded 56 57 0))) (fun s => (s.shift, s.bcnt, s.firstStart, s.nibStart, s.lastNext)) =
      some (0, 0, 0, 0, 0) := by decide
theorem test_cksum_table :
    [0x000, 0x001, 0x014, 0x018, 0x123, 0x555, 0x7D0, 0x800, 0xABC, 0xFFF].map cksumStd = [0, 1, 5, 9, 0, 5, 10, 8, 13, 15] ∧
    [0x000, 0x001, 0x014, 0x018, 0x123, 0x555, 0x7D0, 0x800, 0xABC, 0xFFF].map cksumBidir =
      [15, 14, 10, 6, 15, 10, 5, 7, 2, 0] := by decide
theorem test_cksum_returns :
    [exec (.cksumFold 20) live, exec (.cksumStd 20) live, exec (.cksumBidir 20) live].map (after · State.result) =
      [some (some (.nibble 5)), some (some (.nibble 5)), some (some (.nibble 10))] := by decide
theorem test_cksumCmp :
    [exec (.cksumCmp 5 5) live, exec (.cksumCmp 10 0) live].map (after · State.result) =
      [some (some (.ok true)), some (some (.ok false))] := by decide
theorem test_classify_table :
    [0, 10, 47, 48, 1000, 2047].map classify = [(1, 0), (1, 10), (1, 47), (2, 48), (2, 1000), (2, 2047)] := by decide
theorem test_classify_returns : after (exec (.classify 48) live) State.result = some (some (.category 2 48)) := by decide
theorem test_event_words :
    [Event.toWord ⟨2, 74, 1, 0x0A⟩, Event.toWord ⟨74, 98, 3, 0x55⟩, Event.toWord ⟨92, 98, 0, 1⟩, Event.toWord ⟨63, 83, 4, 2⟩] =
    [0x000000000000000100000000000000251000A#147, 0x0000000000000025000000000000003130055#147,
      0x000000000000002E000000000000003100001#147, 0x000000000000001F8000000000000029C0002#147] := by decide

/-! ### Witnesses: for each statement with hypotheses, states and operands that meet all of them -/

/-- The `k`-th bit of a 900 kHz frame that begins at 2 (95 P1). -/
def cell (k : Nat) (v : Bool) : DecodedBit :=
  ⟨BitVec.ofNat 64 (2 + 6 * k), BitVec.ofNat 64 (if v then 6 + 6 * k else 4 + 6 * k), BitVec.ofNat 64 (8 + 6 * k), v⟩

/-- The first fifteen bits of 95 P1's frame. -/
def bits15 : List DecodedBit :=
  ([false, false, false, false, false, false, false, true, false, true, false, false, false, true, false].zipIdx).map
    (fun p => cell p.2 p.1)

/-- One sample before the boundary of 95 P1's frame, with its first Bit event in the stream and that sample
waiting. -/
def inFrame : State :=
  { buffered 15 0x00A2 (bounded 92 96 17) with events := [⟨2, 8, 0, 0⟩], input := [.command 0x4000000000#40] }

/-- A run inside its first pulse. -/
def inPulse : State := { live with prev := true, bx := 1#2, pcStart := 2#64, idx := 3#64, idle := 1#32 }

theorem test_witness_decodeOfEncode :
    (Instr.flushBadlen 31#5).wellFormed = true ∧ encode (.flushBadlen 31#5) = some (.flush 31#5) ∧
    encode (.classify 48#11) = none := by decide

/-- SamplePerformsTheWaitRowItsSelectorMatches, SamplePerformsTheFirstBxRowItsSelectorMatches and
SampleConsumesOneSample; for the second, with a condition and without, up to the last count. -/
theorem test_witness_runningSample :
    live.run = .running ∧ live.prevValid = true ∧ live.idx ≠ BitVec.allOnes 64 ∧ live.bx ≠ 3#2 ∧ live.prev ≠ true ∧
    live.idle.toNat + 1 < 2 ^ 32 ∧ (0xFFFFFFFE#32).toNat + 1 < 2 ^ 32 ∧ State.reset.run ≠ .running := by decide

theorem test_witness_stepRunsTheDecodedCommand :
    (live.issue 0x4000000001#40).input = .command 0x4000000001#40 :: [] ∧ (live.issue 0x4000000001#40).bx ≠ 3#2 := by decide

theorem test_witness_stepWithoutCommand : live.input = [] := by decide

theorem test_witness_resetInput :
    ({ live with input := [.resetLine, .command 1#40] } : State).input = .resetLine :: [.command 1#40] := by decide

/-- Every clause of CfgwWritesItsRegisterOutsideRunning, at both ends of the last one. -/
theorem test_witness_cfgw :
    live.run = .running ∧ State.reset.run ≠ .running ∧ 2 ≤ (2#4).toNat ∧ 2 ≤ (15#4).toNat ∧ ¬ 2 ≤ (1#4).toNat := by decide

/-- The clauses of CfgrRespondsWithTheRegister exclude each other where they meet. -/
theorem test_witness_cfgr : 5 ≤ (5#4).toNat ∧ 5 ≤ (15#4).toNat ∧ ¬ 5 ≤ (4#4).toNat := by decide

theorem test_witness_registerAccesses :
    (∃ t, exec (.cfgr 2#4) live = .next t) ∧ (∃ t, exec (.cfgw 0#4 9#32) State.reset = .next t) := ⟨⟨_, rfl⟩, ⟨_, rfl⟩⟩

/-- Two states that differ in hidden registers alone. -/
theorem test_witness_hiddenState :
    let t : State := { live with idle := 5#32, pcStart := 7#64, shift := 3#16 }
    live ≠ t ∧ live.ctrl = t.ctrl ∧ live.samplerate = t.samplerate ∧ live.run = t.run ∧ live.fault = t.fault ∧
    live.period = t.period ∧ live.timeout = t.timeout ∧ live.bx = t.bx ∧ live.bcnt = t.bcnt := by decide

theorem test_witness_startInRunning : live.run = .running := by decide

/-- At SAMPLERATE 0 and at the largest rate that fails at 150 (95 section 2.2). -/
theorem test_witness_failedStart :
    State.reset.run ≠ .running ∧ 667 = [667, 333, 167, 83].getD (State.reset.ctrl.extractLsb' 1 2).toNat 0 ∧
    State.reset.samplerate.toNat * 667 / 100000000 = 0 ∧ (149925#32).toNat * 667 / 100000000 = 0 := by decide

/-- At the smallest and the largest rate that pass at 150 (95 section 2.2). -/
theorem test_witness_passingStart :
    State.reset.run ≠ .running ∧ 667 = [667, 333, 167, 83].getD (State.reset.ctrl.extractLsb' 1 2).toNat 0 ∧
    1 = (149926#32).toNat * 667 / 100000000 ∧ 28647 = (0xFFFFFFFF#32).toNat * 667 / 100000000 := by decide

theorem test_witness_bootSequence :
    State.reset.run ≠ .running ∧ ∃ a b, exec (.cfgw 1#4 900000#32) State.reset = .next a ∧
      exec (.cfgw 0#4 (0#29 ++ 1#2 ++ BitVec.ofBool true)) a = .next b :=
  ⟨by decide, _, _, rfl, rfl⟩

theorem test_witness_end : live.run = .running ∧ State.reset.run ≠ .running := by decide

/-- The last index, and the refusal there. -/
theorem test_witness_samplePastTheLastIndex :
    let s : State := { live with idx := BitVec.allOnes 64 }
    s.run = .running ∧ s.prevValid = true ∧ s.idx = BitVec.allOnes 64 ∧
    refusalOf (exec (.sample true) s) = some .indexOverflow := by decide

/-- A command that changes the run state, of each of the three kinds. -/
theorem test_witness_runStateChanges :
    (∃ t, exec (decodeHost 0x3000000000#40) { State.reset with samplerate := 900000#32 } = .next t ∧ t.run = .running) ∧
    (∃ t, exec (decodeHost 0x3000000000#40) State.reset = .next t ∧ t.run = .faulted) ∧
    (∃ t, exec (decodeHost 0x5000000000#40) live = .next t ∧ t.run = .exhausted) :=
  ⟨⟨_, rfl, rfl⟩, ⟨_, rfl, rfl⟩, ⟨_, rfl, rfl⟩⟩

/-- Each clause of RunningFreezesTheConfiguration, and EventStreamIsAppendOnly, with a SAMPLE. -/
theorem test_witness_commandsThatAnswer :
    live.run = .running ∧ decodeHost 0x4000000001#40 = .sample true ∧
    (∃ t, exec (decodeHost 0x4000000001#40) live = .next t) := ⟨by decide, by decide, _, rfl⟩

theorem test_witness_referenceSample : fresh.run = .running ∧ fresh.prevValid = false := by decide

/-- Up to the last quiet sample below the threshold. -/
theorem test_witness_quietSample :
    let s : State := { live with idle := 16#32 }
    s.idx ≠ BitVec.allOnes 64 ∧ s.bx ≠ 3#2 ∧ s.idle.toNat + 1 < 2 ^ 32 ∧ s.run = .running ∧ s.prevValid = true ∧
    s.prev = false ∧ s.idle.toNat + 1 < s.timeout.toNat := by decide

/-- A state for WaitReturnsRestartTheCount; its three kinds of operation put no further demand on it. -/
theorem test_witness_waitReturns :
    (bounded 2 4 17).idx ≠ BitVec.allOnes 64 ∧ (bounded 2 4 17).bx ≠ 3#2 ∧
    (Instr.edgeRise true ≠ .edgeFall true ∧ Instr.edgeFall true ≠ .timeout true) := by decide

theorem test_witness_edgeWins :
    (bounded 2 4 17).run = .running ∧ (bounded 2 4 17).prevValid = true ∧ (bounded 2 4 17).prev ≠ true ∧
    (bounded 2 4 17).idle.toNat + 1 = (bounded 2 4 17).timeout.toNat := by decide

/-- With the largest k, where the timeout is next. -/
theorem test_witness_inactivity :
    live.run = .running ∧ live.prevValid = true ∧ live.bx ≠ 3#2 ∧ live.idx.toNat + 17 < 2 ^ 64 ∧
    live.idle.toNat + 17 < live.timeout.toNat ∧ live.idle.toNat + 17 + 1 = live.timeout.toNat := by decide

/-- Two states with the same EdgeWaiter and different BitExtractors. -/
theorem test_witness_edgeWaiterAlone :
    let s : State := bounded 2 4 3
    let u : State := { s with bx := 0#2, pcStart := 0#64, ctrl := 1#32 }
    s.run = .running ∧ u.run = .running ∧ s.prevValid = u.prevValid ∧ s.prev = u.prev ∧ s.idle = u.idle ∧ s.idx = u.idx ∧
    s.timeout = u.timeout ∧ (next (exec (.sample true) s)).isSome ∧ (next (exec (.sample true) u)).isSome := by decide

/-- 95 X3, and the same pulse in the shortest cell. -/
theorem test_witness_bxNext :
    (bounded 2 4 3).pcStart.toNat < (bounded 2 4 3).pcEnd.toNat ∧ (bounded 2 4 3).pcStart.toNat < (8#64).toNat ∧
    false = decide (2 * ((4#64).toNat - (2#64).toNat) > (8#64).toNat - (2#64).toNat) := by decide

/-- 95 X4. -/
theorem test_witness_bxFinal :
    inFrame.pcStart.toNat < inFrame.pcEnd.toNat ∧ (98#64).toNat = inFrame.pcStart.toNat + inFrame.period.toNat ∧
    true = decide (2 * (inFrame.pcEnd.toNat - inFrame.pcStart.toNat) > inFrame.period.toNat) ∧ inFrame.bcnt = 15#5 := by decide

theorem test_witness_reservedBxState :
    let s : State := { live with bx := 3#2, input := [.command 0x2000000000#40] }
    s.input = .command 0x2000000000#40 :: [] ∧ s.bx = 3#2 ∧ s.run = .running ∧ s.prevValid = true ∧
    s.idx ≠ BitVec.allOnes 64 := by decide

/-- The invariant holds of a run one sample before a frame boundary. -/
theorem test_inv_inFrame : Inv inFrame where
  control := ⟨by decide, by decide, by decide, by decide, by decide, by decide, by decide, by decide⟩
  pulse := ⟨fun h => absurd h (by decide), by decide, by decide, by decide, by decide, by decide, by decide, by decide,
    by decide⟩
  buffer := ⟨by decide, fun h => absurd h (by decide), by decide, by decide, by decide, by decide⟩
  events_legal := by unfold EventLegal; decide

/-- The invariant holds of a run inside a pulse. -/
theorem test_inv_inPulse : Inv inPulse where
  control := ⟨by decide, by decide, by decide, by decide, by decide, by decide, by decide, by decide⟩
  pulse := ⟨fun h => absurd h (by decide), by decide, by decide, by decide, by decide, by decide, by decide, by decide,
    by decide⟩
  buffer := ⟨by decide, fun _ => ⟨rfl, rfl, rfl, rfl, rfl⟩, by decide, by decide, by decide, by decide⟩
  events_legal := by unfold EventLegal; decide

/-- An edge in Started and an edge in Bounded, under the invariant. -/
theorem test_witness_unreachable :
    Inv inPulse ∧ inPulse.run = .running ∧ inPulse.bx = 1#2 ∧ inPulse.prev ≠ false ∧
    Inv inFrame ∧ inFrame.run = .running ∧ inFrame.bx = 2#2 ∧ inFrame.prev ≠ true :=
  ⟨test_inv_inPulse, by decide, by decide, by decide, test_inv_inFrame, by decide, by decide, by decide⟩

/-- A nominal bit, and a final bit whose synthesized edge lies before the pulse's end (95 section 2.5). -/
theorem test_witness_bitval :
    ((2#64).toNat < (4#64).toNat ∧ (2#64).toNat < (8#64).toNat) ∧ ((2#64).toNat < (30#64).toNat ∧ (2#64).toNat < (8#64).toNat) := by
  decide

/-- The empty buffer of a run without bits, and the fifteen bits of 95 P1. -/
theorem test_represents_empty : Represents [] live :=
  ⟨by decide, by decide, by decide, by decide, by decide⟩

theorem test_represents_inFrame : Represents bits15 inFrame :=
  ⟨by decide, by decide, by decide, by decide, by decide⟩

/-- The sixteenth bit of 95 P1, completed by the boundary. -/
theorem test_witness_boundaryRefines :
    Represents bits15 inFrame ∧ (cell 15 true).start = inFrame.pcStart ∧ (cell 15 true).stop = inFrame.pcEnd ∧
    (cell 15 true).start.toNat < (cell 15 true).stop.toNat ∧
    (cell 15 true).next.toNat = inFrame.pcStart.toNat + inFrame.period.toNat ∧
    (cell 15 true).value =
      decide (2 * ((cell 15 true).stop.toNat - (cell 15 true).start.toNat) > inFrame.period.toNat) :=
  ⟨test_represents_inFrame, by decide, by decide, by decide, by decide, by decide⟩

theorem test_witness_shiftHoldsTheFrame :
    BufferClear live ∧ Represents (bits15 ++ [cell 15 true]) (inFrame.appendBit (cell 15 true)) ∧ (bits15 ++ [cell 15 true]).length = 16 :=
  ⟨⟨rfl, rfl, rfl, rfl, rfl⟩, ⟨by decide, by decide, by decide, by decide, by decide⟩, by decide⟩

/-- 95 P1's frame through sixteen APPENDs is the word 0x0145. -/
theorem test_appendAll_P1 :
    after (appendAll (bits15 ++ [cell 15 true]) live) (fun t => (t.shift, t.bcnt, t.nibStart)) =
      some (0x0145, 16, 74) := by decide

theorem test_witness_flushBadlen : (1#5 ≠ 0#5 ∧ 1#5 ≠ 16#5) ∧ (31#5 ≠ 0#5 ∧ 31#5 ≠ 16#5) := by decide

theorem test_witness_classify : (47#11).toNat < 48 ∧ 48 ≤ (48#11).toNat := by decide

/-- A SAMPLE that emits a whole frame (SampleEmitsOneOfTheListedSequences). -/
theorem test_witness_sampleEmits :
    after (exec (.sample false) inFrame) (fun t => t.events.length) = some 4 ∧ inPulse.bx ≠ 2#2 := by decide

/-- The step that ends 95 P1's frame, from a state of the invariant (EveryStepKeepsTheInvariant and
EveryStepCompletesUnderTheInvariant). -/
theorem test_witness_invariantStep :
    Inv inFrame ∧ inFrame.idx ≠ BitVec.allOnes 64 ∧
    after (step inFrame) (fun t => (t.bx, t.events)) =
      some (0, [⟨2, 8, 0, 0⟩, ⟨92, 98, 0, 1⟩, ⟨2, 74, 1, 10⟩, ⟨74, 98, 3, 0x55⟩]) :=
  ⟨test_inv_inFrame, by decide, by decide⟩

/-- The same step for EveryStepKeepsTheBufferRepresented: the source's buffer ends empty and its stream is the
one of 95 P1; and a start edge that a bounded pulse meets, where the buffer grows. -/
theorem test_witness_bufferRepresented :
    (Inv inFrame ∧ Represents bits15 inFrame ∧ (next (step inFrame)).isSome) ∧
    sourceStep bits15 inFrame =
      ([], [⟨2, 8, 0, 0⟩, ⟨92, 98, 0, 1⟩, ⟨2, 74, 1, 10⟩, ⟨74, 98, 3, 0x55⟩]) ∧
    (sourceStep bits15 { inFrame with input := [.command 0x4000000001#40] }).1.length = 16 :=
  ⟨⟨test_inv_inFrame, test_represents_inFrame, by decide⟩, by decide, by decide⟩

end Sys2Proof.Tests
end

section
/-! The state family (10_state): the values the machine starts from. -/

namespace Sys2Proof.Proofs

/-- Settles O11: each clause is the field of `State.reset` that R32 names, by definition. -/
theorem resetStateHoldsTheSpecsValues : Obligations.ResetStateHoldsTheSpecsValues :=
  ⟨rfl, rfl, rfl, rfl, rfl, rfl, -- ctrl, samplerate, run, fault, period, timeout
   rfl, rfl, rfl, rfl,           -- prevValid, prev, idle, idx
   rfl, rfl, rfl, rfl, rfl,      -- bx, pcStart, pcEnd, shift, bcnt
   rfl, rfl, rfl,                -- firstStart, nibStart, lastNext
   rfl, rfl⟩                     -- events, rdata

end Sys2Proof.Proofs
end

section
/-! The encoding family (30_encoding): the fields of a command word and of an event word, each read back
from the word it was put into, and what the decoders make of them. -/

namespace Sys2Proof.Proofs

open Sys2Proof.Machine

/-! ### Command words `{OP[39:36], ADDR[35:32], DATA[31:0]}` (30 R46) -/

@[simp] theorem commandWord_op (op addr : BitVec 4) (data : Reg) :
    (commandWord op addr data).extractLsb' 36 4 = op :=
  calc (commandWord op addr data).extractLsb' 36 4
    _ = (op ++ addr).extractLsb' 4 4 := BitVec.extractLsb'_append_eq_of_le (by decide)
    _ = op := BitVec.extractLsb'_append_eq_left

@[simp] theorem commandWord_addr (op addr : BitVec 4) (data : Reg) :
    (commandWord op addr data).extractLsb' 32 4 = addr :=
  calc (commandWord op addr data).extractLsb' 32 4
    _ = (op ++ addr).extractLsb' 0 4 := BitVec.extractLsb'_append_eq_of_le (by decide)
    _ = addr := BitVec.extractLsb'_append_eq_right

@[simp] theorem commandWord_data (op addr : BitVec 4) (data : Reg) :
    (commandWord op addr data).extractLsb' 0 32 = data :=
  BitVec.extractLsb'_append_eq_right

/-! The decoder on a command word, OP by OP (30 R47): the operands are fields of the word, and a field that
the instruction does not carry is free. -/

@[simp] theorem decodeHost_commandWord_cfgw (addr : BitVec 4) (data : Reg) :
    decodeHost (commandWord 1#4 addr data) = .cfgw addr data := by simp [decodeHost]

@[simp] theorem decodeHost_commandWord_cfgr (addr : BitVec 4) (data : Reg) :
    decodeHost (commandWord 2#4 addr data) = .cfgr addr := by simp [decodeHost]

@[simp] theorem decodeHost_commandWord_start (addr : BitVec 4) (data : Reg) :
    decodeHost (commandWord 3#4 addr data) = .start := by simp [decodeHost]

@[simp] theorem decodeHost_commandWord_sample (addr : BitVec 4) (data : Reg) :
    decodeHost (commandWord 4#4 addr data) = .sample (data.getLsbD 0) := by simp [decodeHost]

@[simp] theorem decodeHost_commandWord_endStream (addr : BitVec 4) (data : Reg) :
    decodeHost (commandWord 5#4 addr data) = .endStream := by simp [decodeHost]

/-- Settles O3: each word is a `commandWord` of its OP, whose decoding is known for every ADDR and DATA. -/
theorem unusedCommandFieldsAreIgnored : Obligations.UnusedCommandFieldsAreIgnored := fun addr data =>
  ⟨decodeHost_commandWord_cfgw addr data, decodeHost_commandWord_cfgr addr data,
   decodeHost_commandWord_start addr data, decodeHost_commandWord_sample addr data,
   decodeHost_commandWord_endStream addr data⟩

/-! ### Event words `{START[146:83], END[82:19], CAT[18:16], PAYLOAD[15:0]}` (30 R56) -/

@[simp] theorem toWord_start (e : Event) : e.toWord.extractLsb' 83 64 = e.start :=
  calc e.toWord.extractLsb' 83 64
    _ = (e.start ++ e.stop ++ e.cat).extractLsb' 67 64 := BitVec.extractLsb'_append_eq_of_le (by decide)
    _ = (e.start ++ e.stop).extractLsb' 64 64 := BitVec.extractLsb'_append_eq_of_le (by decide)
    _ = e.start := BitVec.extractLsb'_append_eq_left

@[simp] theorem toWord_stop (e : Event) : e.toWord.extractLsb' 19 64 = e.stop :=
  calc e.toWord.extractLsb' 19 64
    _ = (e.start ++ e.stop ++ e.cat).extractLsb' 3 64 := BitVec.extractLsb'_append_eq_of_le (by decide)
    _ = (e.start ++ e.stop).extractLsb' 0 64 := BitVec.extractLsb'_append_eq_of_le (by decide)
    _ = e.stop := BitVec.extractLsb'_append_eq_right

@[simp] theorem toWord_cat (e : Event) : e.toWord.extractLsb' 16 3 = e.cat :=
  calc e.toWord.extractLsb' 16 3
    _ = (e.start ++ e.stop ++ e.cat).extractLsb' 0 3 := BitVec.extractLsb'_append_eq_of_le (by decide)
    _ = e.cat := BitVec.extractLsb'_append_eq_right

@[simp] theorem toWord_payload (e : Event) : e.toWord.extractLsb' 0 16 = e.payload :=
  BitVec.extractLsb'_append_eq_right

@[simp] theorem ofWord_toWord (e : Event) : Event.ofWord e.toWord = e := by
  simp [Event.ofWord]

/-- The four fields of `ofWord` are adjacent and span the word: joined pair by pair they give it back. -/
@[simp] theorem toWord_ofWord (w : BitVec 147) : (Event.ofWord w).toWord = w :=
  calc (Event.ofWord w).toWord
    _ = w.extractLsb' 83 64 ++ w.extractLsb' 19 64 ++ w.extractLsb' 16 3 ++ w.extractLsb' 0 16 := rfl
    _ = w.extractLsb' 19 128 ++ w.extractLsb' 16 3 ++ w.extractLsb' 0 16 := by
      rw [BitVec.extractLsb'_append_extractLsb'_eq_extractLsb' (show 83 = 19 + 64 from rfl)]
    _ = w.extractLsb' 16 131 ++ w.extractLsb' 0 16 := by
      rw [BitVec.extractLsb'_append_extractLsb'_eq_extractLsb' (show 19 = 16 + 3 from rfl)]
    _ = w.extractLsb' 0 147 := BitVec.extractLsb'_append_extractLsb'_eq_extractLsb' rfl
    _ = w := BitVec.extractLsb'_eq_self

/-- Settles O7: the four fields of the layout, and the two inverses. -/
theorem eventWordHoldsEveryField : Obligations.EventWordHoldsEveryField :=
  ⟨fun e => ⟨toWord_start e, toWord_stop e, toWord_cat e, toWord_payload e, ofWord_toWord e⟩, toWord_ofWord⟩

end Sys2Proof.Proofs
end

section
/-! The host command family (40_host_commands): one rule per command for each run state it distinguishes, the
registers a CFGW writes and a CFGR reads, and what START computes. -/

namespace Sys2Proof.Proofs

open Sys2Proof.Machine

/-! ### CFGW (40 R60) -/

/-- CTRL keeps DATA[2:0], which is DATA masked by 7. -/
theorem setWidth_extractLsb'_three (d : Reg) : (d.extractLsb' 0 3).setWidth 32 = d &&& 7#32 := by
  apply BitVec.eq_of_toNat_eq
  have hmask : d.toNat &&& 7 = d.toNat % 8 := Nat.and_two_pow_sub_one_eq_mod d.toNat 3
  simp [hmask]
  omega

theorem writeReg_ctrl (d : Reg) (s : State) : writeReg 0#4 d s = { s with ctrl := d &&& 7#32 } := by
  simp [writeReg, setWidth_extractLsb'_three]

theorem writeReg_samplerate (d : Reg) (s : State) : writeReg 1#4 d s = { s with samplerate := d } := rfl

/-- STATUS, PERIOD, TIMEOUT and the reserved addresses ignore a write. -/
theorem writeReg_of_two_le {a : BitVec 4} (h : 2 ≤ a.toNat) (d : Reg) (s : State) : writeReg a d s = s := by
  rcases writeReg_cases a d s with ⟨rfl, -⟩ | ⟨rfl, -⟩ | ⟨-, -, hw⟩
  · simp at h
  · simp at h
  · exact hw

theorem exec_cfgw_of_running {s : State} (h : s.run = .running) (a : BitVec 4) (d : Reg) :
    exec (.cfgw a d) s = .next s := by
  simp [exec, execCfgw, h]

theorem exec_cfgw_of_not_running {s : State} (h : s.run ≠ .running) (a : BitVec 4) (d : Reg) :
    exec (.cfgw a d) s = .next (writeReg a d s) := by
  simp [exec, execCfgw, h]

/-! ### What START computes (40 R63, 00 R5) -/

theorem periodLiteral_eq_getD (r : BitVec 2) : periodLiteral r = [667, 333, 167, 83].getD r.toNat 0 := by
  revert r; decide

theorem nominalPeriod_eq (sr : Reg) (r : BitVec 2) :
    nominalPeriod sr r = sr.toNat * [667, 333, 167, 83].getD r.toNat 0 / 100000000 := by
  rw [nominalPeriod, periodLiteral_eq_getD, Config.periodUnit]

/-- Without a sample rate N is 0, so a START that passes the second check has passed the first. -/
@[simp] theorem nominalPeriod_zero (r : BitVec 2) : nominalPeriod 0#32 r = 0 := by simp [nominalPeriod]

/-- R62: the first check of a START. -/
theorem exec_start_of_samplerate_zero {s : State} (hrun : s.run ≠ .running) (hsr : s.samplerate = 0#32) :
    exec .start s = .next (s.clearDatapath.raiseFault 1#4) := by
  rcases execStart_cases s with ⟨h, -⟩ | ⟨-, -, h⟩ | ⟨-, h, -⟩ | ⟨-, h, -⟩
  · exact absurd h hrun
  · exact h
  · exact absurd hsr h
  · exact absurd hsr h

/-- R63, R64: a START whose N is not 0 passes both checks. -/
theorem exec_start_of_nominalPeriod_ne_zero {s : State} (hrun : s.run ≠ .running)
    (hn : nominalPeriod s.samplerate (rate s) ≠ 0) :
    exec .start s = .next (s.clearDatapath.enterRunning (nominalPeriod s.samplerate (rate s))) := by
  rcases execStart_cases s with ⟨h, -⟩ | ⟨-, h, -⟩ | ⟨-, -, h, -⟩ | ⟨-, -, -, h⟩
  · exact absurd h hrun
  · simp [h] at hn
  · exact absurd h hn
  · exact h

/-- PERIOD holds N and TIMEOUT holds 3N without loss: R63's bound keeps both below 2^32. -/
theorem enterRunning_nominalPeriod_toNat (sr : Reg) (r : BitVec 2) (s : State) :
    (s.enterRunning (nominalPeriod sr r)).period.toNat = nominalPeriod sr r ∧
    (s.enterRunning (nominalPeriod sr r)).timeout.toNat = 3 * nominalPeriod sr r := by
  have hle := nominalPeriod_le sr r
  constructor
  · exact Nat.mod_eq_of_lt (by omega)
  · exact Nat.mod_eq_of_lt (by simp only [Config.timeoutMult]; omega)

/-- Settles O18: the START that passes answers `enterRunning` on the cleared datapath, with N within R63's
bound. -/
theorem passingStartBeginsARun : Obligations.PassingStartBeginsARun := by
  intro s m n hrun hm hn hne
  have hN : nominalPeriod s.samplerate (rate s) = n := by rw [nominalPeriod_eq, hn, hm]; rfl
  have hexec := exec_start_of_nominalPeriod_ne_zero hrun (hN ▸ hne)
  obtain ⟨hperiod, htimeout⟩ := enterRunning_nominalPeriod_toNat s.samplerate (rate s) s.clearDatapath
  rw [← hN]
  exact ⟨nominalPeriod_le _ _, _, hexec, rfl, hperiod, htimeout⟩

/-! ### CFGW, and the START after it (40 R60) -/

/-- Settles O12: outside RUNNING a CFGW is `writeReg`, register by register; SAMPLERATE = 0 then fails the
next START's first check. -/
theorem cfgwWritesItsRegisterOutsideRunning : Obligations.CfgwWritesItsRegisterOutsideRunning := by
  intro addr data s
  refine ⟨decodeHost_commandWord_cfgw addr data, fun h => exec_cfgw_of_running h addr data, ?_, ?_, ?_, ?_⟩
  · rintro h rfl
    rw [exec_cfgw_of_not_running h, writeReg_ctrl]
  · rintro h rfl
    rw [exec_cfgw_of_not_running h, writeReg_samplerate]
  · intro h haddr
    rw [exec_cfgw_of_not_running h, writeReg_of_two_le haddr]
  · intro h
    have hwrite := exec_cfgw_of_not_running h 1#4 0#32
    have hstart := exec_start_of_samplerate_zero (s := writeReg 1#4 0#32 s) h rfl
    exact ⟨_, _, hwrite, hstart, rfl, rfl⟩

/-! ### CFGR (40 R61) -/

/-- CFGR responds in every run state. -/
theorem exec_cfgr (a : BitVec 4) (s : State) : exec (.cfgr a) s = .next (s.respond (readReg a s)) := rfl

/-- A reserved address reads 0. -/
theorem readReg_of_five_le {a : BitVec 4} (h : 5 ≤ a.toNat) (s : State) : readReg a s = 0#32 := by
  have hne : ∀ b : BitVec 4, b.toNat < 5 → a ≠ b := by
    rintro b hb rfl
    omega
  simp [readReg, hne]

/-! The fields of STATUS, from bit 31 down: zero, bcnt, bx, fault, zero, run (10_state R14). -/

/-- A field below bit 15 is read from the five registers' concatenation. -/
theorem statusWord_extractLsb' {start len : Nat} (h : start + len ≤ 15) (s : State) :
    (statusWord s).extractLsb' start len =
      (s.bcnt ++ s.bx ++ s.fault ++ 0#2 ++ s.run.code).extractLsb' start len :=
  BitVec.extractLsb'_setWidth_of_le (by omega)

@[simp] theorem statusWord_run (s : State) : (statusWord s).extractLsb' 0 2 = s.run.code := by
  rw [statusWord_extractLsb', BitVec.extractLsb'_append_eq_right]
  decide

@[simp] theorem statusWord_gap (s : State) : (statusWord s).extractLsb' 2 2 = 0#2 := by
  rw [statusWord_extractLsb', BitVec.extractLsb'_append_eq_of_le,
    BitVec.extractLsb'_append_eq_right] <;> decide

@[simp] theorem statusWord_fault (s : State) : (statusWord s).extractLsb' 4 4 = s.fault := by
  rw [statusWord_extractLsb', BitVec.extractLsb'_append_eq_of_le, BitVec.extractLsb'_append_eq_of_le,
    BitVec.extractLsb'_append_eq_right] <;> decide

@[simp] theorem statusWord_bx (s : State) : (statusWord s).extractLsb' 8 2 = s.bx := by
  rw [statusWord_extractLsb', BitVec.extractLsb'_append_eq_of_le, BitVec.extractLsb'_append_eq_of_le,
    BitVec.extractLsb'_append_eq_of_le, BitVec.extractLsb'_append_eq_right] <;> decide

@[simp] theorem statusWord_bcnt (s : State) : (statusWord s).extractLsb' 10 5 = s.bcnt := by
  rw [statusWord_extractLsb', BitVec.extractLsb'_append_eq_of_le, BitVec.extractLsb'_append_eq_of_le,
    BitVec.extractLsb'_append_eq_of_le, BitVec.extractLsb'_append_eq_left] <;> decide

/-- The zero extension above bit 14. -/
@[simp] theorem statusWord_high (s : State) : (statusWord s).extractLsb' 15 17 = 0#17 :=
  calc (statusWord s).extractLsb' 15 17
    _ = (0#17 ++ (s.bcnt ++ s.bx ++ s.fault ++ 0#2 ++ s.run.code)).extractLsb' 15 17 :=
      congrArg (BitVec.extractLsb' 15 17) (BitVec.setWidth_eq_append (by decide))
    _ = 0#17 := BitVec.extractLsb'_append_eq_left

/-- Settles O13: the response is `readReg`, address by address; STATUS field by field. -/
theorem cfgrRespondsWithTheRegister : Obligations.CfgrRespondsWithTheRegister := by
  intro addr data s
  refine ⟨readReg addr s, decodeHost_commandWord_cfgr addr data, exec_cfgr addr s, ?ctrl, ?samplerate,
    ?status, ?period, ?timeout, fun h => readReg_of_five_le h s⟩
  case status =>
    rintro rfl
    have hrun : s.run.code = (match s.run with
        | .idle => 0#2 | .running => 1#2 | .faulted => 2#2 | .exhausted => 3#2) := by
      cases s.run <;> rfl
    exact ⟨(statusWord_run s).trans hrun, statusWord_gap s, statusWord_fault s, statusWord_bx s,
      statusWord_bcnt s, statusWord_high s⟩
  all_goals
    rintro rfl
    rfl

/-! ### END (40 R66) -/

theorem exec_endStream_of_running {s : State} (h : s.run = .running) :
    exec .endStream s = .next { s with run := .exhausted } := by
  simp [exec, execEndStream, h]

theorem exec_endStream_of_not_running {s : State} (h : s.run ≠ .running) : exec .endStream s = .next s := by
  simp [exec, execEndStream, h]

/-- Settles O20: the decoding of OP 5, then END's two rules. -/
theorem endExhaustsARunningStream : Obligations.EndExhaustsARunningStream :=
  ⟨decodeHost_commandWord_endStream,
   fun _ => ⟨exec_endStream_of_running, exec_endStream_of_not_running⟩⟩

end Sys2Proof.Proofs
end

section
/-! The EdgeWaiter family (41_edge_waiter): which operation a running SAMPLE performs, and the two operations that
no edge and no timeout reach, the reference sample and the quiet one. -/

namespace Sys2Proof.Proofs

open Sys2Proof.Machine

/-! ### The SAMPLE step in RUNNING (41 R67) -/

theorem exec_sample_of_running {s : State} (h : s.run = .running) (level : Bool) :
    exec (.sample level) s = edgeWaiterStep level s := by
  simp [exec, execSample, h]

/-! ### REF_SAMPLE (41 R68) -/

theorem exec_refSample (t e level : Bool) (s : State) :
    exec (.refSample t e level) s = .next (s.reference level) := rfl

/-- Without a previous sample the EdgeWaiter performs REF_SAMPLE, whatever t and e are. -/
theorem edgeWaiterStep_of_not_prevValid {s : State} (h : s.prevValid = false) (level : Bool) :
    edgeWaiterStep level s = exec (.refSample (timeoutDue s) (xor s.prev level) level) s := by
  simp [edgeWaiterStep, exec, h]

/-- Settles O26: REF_SAMPLE writes `reference`, and the first SAMPLE of a run performs it. -/
theorem referenceSampleIsNeverAnEdge : Obligations.ReferenceSampleIsNeverAnEdge := by
  refine ⟨exec_refSample, fun level s hrun hvalid => ?_⟩
  rw [exec_sample_of_running hrun, edgeWaiterStep_of_not_prevValid hvalid]
  exact exec_refSample _ _ level s

/-! ### WAIT_NONE (41 R69) -/

/-- No condition is no qualified event in either polarity (41 R73). -/
theorem qualify_condNone (b : Bool) : qualify condNone b = qevNone := rfl

/-- With no qualified event the BitExtractor performs BX_NOP (42 R79): every transition needs an event. -/
theorem bxStep_qevNone {s : State} (h : s.bx ≠ 3#2) (i : Index) : bxStep qevNone i s = .next s := by
  obtain ⟨t, ht⟩ := bxStep_completes (q := qevNone) (i := i) h
  have hevent : qevNone ≠ 1#2 ∧ qevNone ≠ 2#2 ∧ qevNone ≠ 3#2 := by decide
  obtain ⟨-, ⟨rfl, -⟩ | ⟨-, hq, -⟩ | ⟨-, hq, -⟩ | ⟨-, hq, -⟩ | ⟨-, hq, -⟩⟩ := bxStep_cases ht
  · exact ht
  all_goals simp [hq] at hevent

/-- The inactivity count counts one sample where R21 states it. -/
theorem idleSucc_eq {c : Reg} (h : c.toNat + 1 < 2 ^ 32) : idleSucc c = c + 1#32 := if_pos h

theorem advance_condNone {s : State} (h : s.idle.toNat + 1 < 2 ^ 32) (level : Bool) :
    s.advance condNone level =
      { s with idx := s.idx + 1#64, prev := level, idle := s.idle + 1#32 } := by
  rw [← idleSucc_eq h]
  rfl

theorem exec_waitNone (level : Bool) (s : State) :
    exec (.waitNone level) s = waitReturn condNone level s := rfl

/-- Without a condition a sample is the EdgeWaiter's count alone: the BitExtractor's step has no event. -/
theorem waitReturn_condNone {s : State} (hidx : s.idx ≠ BitVec.allOnes 64) (hbx : s.bx ≠ 3#2)
    (level : Bool) : waitReturn condNone level s = .next (s.advance condNone level) :=
  calc waitReturn condNone level s
    _ = bxStep (qualify condNone (bidir s)) (s.idx + 1#64) (s.advance condNone level) := if_neg hidx
    _ = .next (s.advance condNone level) := by
      rw [qualify_condNone, bxStep_qevNone (by rwa [State.advance_bx])]

/-- A sample at the previous level that does not make the count TIMEOUT reports no condition. -/
theorem sampleCond_quiet {level : Bool} {s : State} (hprev : s.prev = level)
    (hbelow : s.idle.toNat + 1 < s.timeout.toNat) : sampleCond level s = condNone := by
  have hdue : timeoutDue s = false := decide_eq_false hbelow.ne
  simp [sampleCond, hprev, hdue, condNone]

/-- Settles O27: a SAMPLE at the previous level and below the threshold selects WAIT_NONE, which only counts. -/
theorem quietSampleOnlyCounts : Obligations.QuietSampleOnlyCounts := by
  intro level s hidx hbx hidle
  have hwait : exec (.waitNone level) s =
      .next { s with idx := s.idx + 1#64, prev := level, idle := s.idle + 1#32 } := by
    rw [exec_waitNone, waitReturn_condNone hidx hbx, advance_condNone hidle]
  refine ⟨hwait, fun hrun hvalid hprev hbelow => ?_⟩
  rw [exec_sample_of_running hrun, edgeWaiterStep_eq hvalid, sampleCond_quiet hprev hbelow, ← exec_waitNone]
  exact hwait

end Sys2Proof.Proofs
end

section
/-! The BitExtractor family (42_bit_extractor): the bit that a trailing edge completes, what producing it writes, and
the frame boundary's report as the rules give it, from which the two transitions that produce a bit follow. -/

namespace Sys2Proof.Proofs

open Sys2Proof.Machine Sys2Proof.Safety

/-! ### The transitions that only record an index (42 R80, R81) -/

theorem exec_bxBegin (i : Index) (s : State) : exec (.bxBegin i) s = .next (s.beginPulse i) := rfl

theorem exec_bxBound (i : Index) (s : State) : exec (.bxBound i) s = .next (s.boundPulse i) := rfl

/-- Settles O34: the selector Idle with a start edge, and `beginPulse`, which is R80's two writes. -/
theorem bxBeginRecordsTheStart : Obligations.BxBeginRecordsTheStart :=
  fun i s => ⟨rfl, exec_bxBegin i s⟩

/-- Settles O35: the selector Started with an end edge, and `boundPulse`, which is R81's two writes. -/
theorem bxBoundRecordsTheEnd : Obligations.BxBoundRecordsTheEnd :=
  fun i s => ⟨rfl, exec_bxBound i s⟩

/-! ### The reserved state bx = 11 (42 R89, 60 R111) -/

/-- Whatever the event, bx = 11 selects BX_RESERVED: it has the first priority (30 R51). -/
theorem decodeBx_reserved (q : BitVec 2) (i : Index) : decodeBx (3#2 ++ q) i = .bxReserved q := by
  have hbx : (3#2 ++ q).extractLsb' 2 2 = 3#2 := BitVec.extractLsb'_append_eq_left
  have hqev : (3#2 ++ q).extractLsb' 0 2 = q := BitVec.extractLsb'_append_eq_right
  rw [decodeBx, if_pos hbx, hqev]

theorem exec_bxReserved (q : BitVec 2) (s : State) : exec (.bxReserved q) s = .fault .reservedBxState := rfl

theorem bxStep_of_reserved {s : State} (h : s.bx = 3#2) (q : BitVec 2) (i : Index) :
    bxStep q i s = exec (.bxReserved q) s := if_pos h

/-- Taking a command in the reserved state is a fault before the command is looked at. -/
theorem step_of_reserved {s : State} {w : CommandWord} {rest : List HostInput}
    (hin : s.input = .command w :: rest) (hbx : s.bx = 3#2) : step s = .fault .reservedBxState := by
  rcases step_cases s with ⟨hnone, -⟩ | ⟨_, hreset, -⟩ | ⟨_, _, -, -, hfault⟩ | ⟨_, _, -, hne, -⟩
  · simp [hin] at hnone
  · simp [hin] at hreset
  · exact hfault
  · exact absurd hbx hne

/-- Short of the last index a wait return is the BitExtractor's step on the EdgeWaiter's new registers. -/
theorem waitReturn_eq_bxStep {s : State} (hidx : s.idx ≠ BitVec.allOnes 64) (c : BitVec 2) (level : Bool) :
    waitReturn c level s = bxStep (qualify c (bidir s)) (s.idx + 1#64) (s.advance c level) := if_neg hidx

/-- Settles O38: the selector and the row, then the step, which faults in `fetch`, and the SAMPLE, whose
BitExtractor step finds bx unchanged by the EdgeWaiter. -/
theorem reservedBxStateFaults : Obligations.ReservedBxStateFaults := by
  refine ⟨decodeBx_reserved, exec_bxReserved, fun s w rest => step_of_reserved, ?_⟩
  intro level s hrun hvalid hidx hbx
  have hadv : (s.advance (sampleCond level s) level).bx = 3#2 := by rwa [State.advance_bx]
  rw [exec_sample_of_running hrun, edgeWaiterStep_eq hvalid, waitReturn_eq_bxStep hidx, bxStep_of_reserved hadv,
    exec_bxReserved]

/-! ### Producing a bit (42 R76 to R78, 43 R91) -/

/-- Where R77 states the value, the DecodedBit of a trailing edge is the source's. -/
theorem decodedBit_eq_completedBit {next : Index} {s : State} (hstop : s.pcStart.toNat ≤ s.pcEnd.toNat)
    (hnext : s.pcStart.toNat ≤ next.toNat) : decodedBit next s = completedBit next s := by
  rw [decodedBit, bitval_eq hstop hnext, completedBit]

/-- The Bit event packs the value into its payload's bit 0 (30 R57). -/
theorem bitEvent_eq_cellEvent (b : DecodedBit) : bitEvent b = cellEvent b := by
  cases h : b.value <;> simp [bitEvent, cellEvent, catBit, h]

theorem exec_bxNext (i : Index) (s : State) :
    exec (.bxNext i) s = .next (((s.emit (bitEvent (decodedBit i s))).appendBit (decodedBit i s)).beginPulse i) := rfl

/-- Settles O36: the bit is the source's, its event the cell's; the rest is APPEND's and `beginPulse`'s writes. -/
theorem bxNextReportsAndAppendsTheBit : Obligations.BxNextReportsAndAppendsTheBit := by
  refine ⟨fun _ => rfl, ?_⟩
  rintro i s _ hstop hnext rfl
  rw [exec_bxNext, decodedBit_eq_completedBit hstop.le hnext.le, bitEvent_eq_cellEvent]
  rfl

/-! ### A frame's report (43 R95, 44 R99 to R103, 45 R105, R106) -/

/-- FOLD is the exclusive or of the value's three nibbles (44 R99). -/
theorem cksumFold_eq_nibbles (v : BitVec 12) :
    cksumFold v = v.extractLsb' 8 4 ^^^ v.extractLsb' 4 4 ^^^ v.extractLsb' 0 4 := by
  have hshift (n : Nat) : (v >>> n).extractLsb' 0 4 = v.extractLsb' n 4 := by
    ext i hi
    simp
  rw [cksumFold, BitVec.extractLsb'_xor, BitVec.extractLsb'_xor, hshift, hshift]
  ac_rfl

/-- Complementing before the mask or after it is the same (44 R101). -/
theorem cksumBidir_eq_not_fold (v : BitVec 12) : cksumBidir v = ~~~cksumFold v :=
  BitVec.extractLsb'_not_of_lt (by decide)

/-- The Checksum event's packing: two nibbles in the low byte of the payload (30 R57). -/
theorem setWidth_append_nibbles (a b : BitVec 4) : (a ++ b).setWidth 16 = 0#8 ++ a ++ b :=
  (BitVec.setWidth_eq_append (by decide)).trans BitVec.append_assoc.symm

theorem classify_eq (p : BitVec 11) : classify p = (if p.toNat < 48 then 1#3 else 2#3, p) :=
  (apply_ite (·, p) (p.toNat < 48) 1#3 2#3).symm

theorem frameExpected_eq (s : State) :
    let v := s.shift.extractLsb' 4 12
    let fold := v.extractLsb' 8 4 ^^^ v.extractLsb' 4 4 ^^^ v.extractLsb' 0 4
    frameExpected s = if bidir s then ~~~fold else fold := by
  dsimp only
  rw [← cksumFold_eq_nibbles, ← cksumBidir_eq_not_fold]
  rfl

theorem classifierEvent_eq (s : State) :
    classifierEvent s = ⟨s.firstStart, s.nibStart, if (s.shift.extractLsb' 5 11).toNat < 48 then 1#3 else 2#3,
      (s.shift.extractLsb' 5 11).setWidth 16⟩ := by
  rw [classifierEvent, classify_eq]
  rfl

theorem checksumEvent_eq (s : State) :
    checksumEvent s = ⟨s.nibStart, s.lastNext, 3#3, 0#8 ++ frameExpected s ++ s.shift.extractLsb' 0 4⟩ := by
  rw [checksumEvent, setWidth_append_nibbles]
  rfl

/-- The events of a boundary with 16 bits are the report that the rules give the frame word. -/
theorem boundaryEvents_of_sixteen {s : State} (h : s.bcnt = 16#5) :
    boundaryEvents s = frameReport (bidir s) s.shift s.firstStart s.nibStart s.lastNext := by
  have hne : s.bcnt ≠ 0#5 := by rw [h]; decide
  rw [boundaryEvents, if_neg hne, if_pos h, classifierEvent_eq, checksumEvent_eq, cksumCmp, frameExpected_eq]
  simp only [decide_eq_true_eq]
  rfl

/-- With any other count but 0 the boundary's one event is InvalidFrameLength (43 R96). -/
theorem boundaryEvents_of_badLength {s : State} (hempty : s.bcnt ≠ 0#5) (hframe : s.bcnt ≠ 16#5) :
    boundaryEvents s = [⟨s.firstStart, s.lastNext, 4#3, 1#16⟩] := by
  rw [boundaryEvents, if_neg hempty, if_neg hframe]
  rfl

/-! ### The boundary that a final bit meets (42 R83, 43 R92) -/

/-- APPEND leaves the buffer nonempty: the count saturates and does not wrap to 0 (10 R26). -/
theorem appendBit_bcnt_ne_zero (b : DecodedBit) (s : State) : (s.appendBit b).bcnt ≠ 0#5 := by
  have key : ∀ n : BitVec 5, (if n = 31#5 then 31#5 else n + 1#5) ≠ 0#5 := by decide
  exact key s.bcnt

theorem appendBit_bcnt_eq_sixteen_iff (b : DecodedBit) (s : State) :
    (s.appendBit b).bcnt = 16#5 ↔ s.bcnt = 15#5 := by
  have key : ∀ n : BitVec 5, (if n = 31#5 then 31#5 else n + 1#5) = 16#5 ↔ n = 15#5 := by decide
  exact key s.bcnt

/-- The sixteenth bit completes a frame; after any other the length is invalid. -/
theorem boundaryEvents_appendBit (b : DecodedBit) (s : State) :
    boundaryEvents (s.appendBit b) =
      if s.bcnt = 15#5 then
        frameReport (bidir s) (s.shift.extractLsb' 0 15 ++ BitVec.ofBool b.value) s.firstStart s.nibStart b.next
      else [⟨if s.bcnt = 0#5 then b.start else s.firstStart, b.next, 4#3, 1#16⟩] := by
  split
  · next h =>
    have hfirst : (s.appendBit b).firstStart = s.firstStart := by simp [h]
    have hnib : (s.appendBit b).nibStart = s.nibStart := by simp [h]
    rw [boundaryEvents_of_sixteen ((appendBit_bcnt_eq_sixteen_iff b s).2 h), hfirst, hnib]
    rfl
  · next h =>
    rw [boundaryEvents_of_badLength (appendBit_bcnt_ne_zero b s) (mt (appendBit_bcnt_eq_sixteen_iff b s).1 h)]
    rfl

theorem synthesizedNext_eq {start next : Index} {n : Reg} (h : next.toNat = start.toNat + n.toNat) :
    synthesizedNext start n = next :=
  BitVec.eq_of_toNat_eq ((synthesizedNext_toNat (h ▸ next.isLt)).trans h.symm)

/-- BX_FINAL's writes for the bit it completes: of the APPEND only the boundary's report remains, since the
boundary clears the buffer. -/
theorem exec_bxFinal {b : DecodedBit} {s : State}
    (h : decodedBit (synthesizedNext s.pcStart s.period) s = b) :
    exec .bxFinal s = .next ({ s with
      events := s.events ++ cellEvent b :: boundaryEvents (s.appendBit b), bx := 0#2 } : State).clearBuffer := by
  subst h
  rw [← bitEvent_eq_cellEvent, List.append_cons]
  exact congrArg Host.Outcome.next (State.boundary_eq _)

/-- Settles O37: the bit is the source's at the synthesized edge, and the boundary's events are those of the
buffer with that bit. -/
theorem bxFinalReportsTheBitAndTheBoundary : Obligations.BxFinalReportsTheBitAndTheBoundary := by
  refine ⟨fun _ => rfl, ?_⟩
  intro s v nx hstop hnx hv
  have hcell : nx.toNat - s.pcStart.toNat = s.period.toNat := by omega
  have hbit : decodedBit (synthesizedNext s.pcStart s.period) s = ⟨s.pcStart, s.pcEnd, nx, v⟩ := by
    rw [synthesizedNext_eq hnx, decodedBit_eq_completedBit hstop.le (by omega), completedBit, hcell, ← hv]
  rw [exec_bxFinal hbit, boundaryEvents_appendBit]
  rfl

end Sys2Proof.Proofs
end

section
/-! The FrameAssembler family (43_frame_assembler): what APPEND and the three flush rows with an effect write, each
through the state's named update. -/

namespace Sys2Proof.Proofs

open Sys2Proof.Machine Sys2Proof.Safety

/-! ### APPEND (43 R91) -/

theorem exec_append (b : DecodedBit) (s : State) : exec (.append b) s = .next (s.appendBit b) := rfl

/-- Settles O41: `appendBit` is R91's five writes. -/
theorem appendShiftsCountsAndKeepsTheIndices : Obligations.AppendShiftsCountsAndKeepsTheIndices :=
  exec_append

/-! ### FLUSH_FRAME (43 R95, 44 R103, 45 R106) -/

theorem exec_flushFrame (s : State) : exec .flushFrame s = .next s.reportFrame := rfl

/-- A frame's report does not read the count, so in every state it adds what a boundary with 16 bits adds. -/
theorem reportFrame_eq_frameReport (s : State) :
    s.reportFrame = { s with
      events := s.events ++ frameReport (bidir s) s.shift s.firstStart s.nibStart s.lastNext } := by
  have hreport : boundaryEvents { s with bcnt := 16#5 } =
      frameReport (bidir s) s.shift s.firstStart s.nibStart s.lastNext := boundaryEvents_of_sixteen rfl
  rw [State.reportFrame_eq, ← hreport]
  rfl

/-- Settles O47: the selector 16, and the frame's report as the rules give it. -/
theorem flushFrameReportsTheFrame : Obligations.FlushFrameReportsTheFrame :=
  ⟨rfl, fun s => (exec_flushFrame s).trans (congrArg Host.Outcome.next (reportFrame_eq_frameReport s))⟩

/-! ### FLUSH_BADLEN (43 R96) -/

/-- Every selector but those of FLUSH_EMPTY and FLUSH_FRAME is FLUSH_BADLEN's (30 R53). -/
theorem decodeFlush_badLength {n : BitVec 5} (hempty : n ≠ 0#5) (hframe : n ≠ 16#5) :
    decodeFlush n = .flushBadlen n := by
  rw [decodeFlush, if_neg hempty, if_neg hframe]

theorem exec_flushBadlen (n : BitVec 5) (s : State) :
    exec (.flushBadlen n) s = .next (s.emit (badLengthEvent s)) := rfl

/-- Settles O48: the selector, and the one event over the buffered range. -/
theorem flushBadlenReportsInvalidFrameLength : Obligations.FlushBadlenReportsInvalidFrameLength :=
  fun n s => ⟨decodeFlush_badLength, exec_flushBadlen n s⟩

/-! ### FLUSH_CLEAR (43 R97) -/

theorem exec_flushClear (s : State) : exec .flushClear s = .next s.clearBuffer := rfl

/-- Settles O49: `clearBuffer` is R97's five writes, and BX_FINAL's boundary ends with it. -/
theorem flushClearEmptiesTheBuffer : Obligations.FlushClearEmptiesTheBuffer := by
  refine fun s => ⟨exec_flushClear s, _, exec_bxFinal rfl, ?_⟩
  simp

end Sys2Proof.Proofs
end

section
/-! The encoding family, continued: the round trip of every encoded word, and the rows of the opcode table that a
command word or a selector matches. -/

namespace Sys2Proof.Proofs

open Sys2Proof.Machine

/-! ### Reserved command words (30 R52) -/

@[simp] theorem decodeHost_commandWord_reservedZero (addr : BitVec 4) (data : Reg) :
    decodeHost (commandWord 0#4 addr data) = .reservedZero addr data := by simp [decodeHost]

/-- The OP values 0110 and 0111: none of the lower six, and the three high bits are the row's pattern. -/
@[simp] theorem decodeHost_commandWord_reservedSix (op : BitVec 1) (addr : BitVec 4) (data : Reg) :
    decodeHost (commandWord (3#3 ++ op) addr data) = .reservedSix op addr data := by
  have hop : ∀ n : BitVec 4, n.toNat < 6 → 3#3 ++ op ≠ n := by revert op; decide
  have hhigh : (3#3 ++ op).extractLsb' 1 3 = 3#3 := BitVec.extractLsb'_append_eq_left
  have hlow : (3#3 ++ op).extractLsb' 0 1 = op := BitVec.extractLsb'_append_eq_right
  simp [decodeHost, hop, hhigh, hlow]

/-- The OP values from 1000 up. -/
@[simp] theorem decodeHost_commandWord_reservedHigh (op : BitVec 3) (addr : BitVec 4) (data : Reg) :
    decodeHost (commandWord (1#1 ++ op) addr data) = .reservedHigh op addr data := by
  have hop : ∀ n : BitVec 4, n.toNat < 6 → 1#1 ++ op ≠ n := by revert op; decide
  have hhigh : (1#1 ++ op).extractLsb' 1 3 ≠ 3#3 := by revert op; decide
  have hlow : (1#1 ++ op).extractLsb' 0 3 = op := BitVec.extractLsb'_append_eq_right
  simp [decodeHost, hop, hhigh, hlow]

/-! ### The round trip, format by format -/

/-- Of the level only DATA[0] is encoded, and it is read back. -/
theorem getLsbD_zero_level (l : Bool) : (if l then 1#32 else 0#32).getLsbD 0 = l := by
  cases l <;> rfl

theorem decodeBx_nop {bx : BitVec 2} (h : bx ≠ 3#2) (i : Index) : decodeBx (bx ++ 0#2) i = .bxNop bx := by
  have hbx : (bx ++ 0#2).extractLsb' 2 2 = bx := BitVec.extractLsb'_append_eq_left
  have hqev : (bx ++ 0#2).extractLsb' 0 2 = 0#2 := BitVec.extractLsb'_append_eq_right
  rw [decodeBx, hbx, hqev, if_neg h, if_pos rfl]

theorem decodeQualify_append (bidir : Bool) (cond : BitVec 2) :
    decodeQualify (BitVec.ofBool bidir ++ cond) = .qualify bidir cond := by
  revert bidir cond; decide

theorem decode_encode {i : Instr} {c : Code} (hwf : i.wellFormed = true) (henc : encode i = some c) :
    decode c = i := by
  cases i <;> cases henc
  case cfgw a d => exact decodeHost_commandWord_cfgw a d
  case cfgr a => exact decodeHost_commandWord_cfgr a _
  case start => exact decodeHost_commandWord_start 0#4 0#32
  case sample l => rw [decode, decodeHost_commandWord_sample, getLsbD_zero_level]
  case endStream => exact decodeHost_commandWord_endStream 0#4 0#32
  case reservedZero a d => exact decodeHost_commandWord_reservedZero a d
  case reservedSix o a d => exact decodeHost_commandWord_reservedSix o a d
  case reservedHigh o a d => exact decodeHost_commandWord_reservedHigh o a d
  case refSample t e s => revert t e s; decide
  case waitNone s => revert s; decide
  case edgeRise t => revert t; decide
  case edgeFall t => revert t; decide
  case timeout s => revert s; decide
  case qualify b q => exact decodeQualify_append b q
  case bxReserved q => exact decodeBx_reserved q _
  case bxNop b => exact decodeBx_nop (of_decide_eq_true hwf) _
  case flushBadlen n =>
    simp only [Instr.wellFormed, Bool.and_eq_true, decide_eq_true_eq] at hwf
    obtain ⟨hempty, hframe⟩ := hwf
    exact decodeFlush_badLength hempty hframe
  all_goals rfl

/-- The rows without a word are those whose operands have no place in one (30 R53). -/
theorem encode_eq_none_iff (i : Instr) : encode i = none ↔
    i.mnemonic ∈ ["FLUSH_CLEAR", "BITVAL", "APPEND", "FRAME_FIELDS", "CKSUM_FOLD", "CKSUM_CMP", "CLASSIFY"] := by
  cases i <;> simp [encode, Instr.mnemonic]

/-- Settles O1: the round trip of each row, and the seven rows without a word. -/
theorem decodeOfEncodeIsTheInstruction : Obligations.DecodeOfEncodeIsTheInstruction :=
  ⟨fun _ _ => decode_encode, encode_eq_none_iff⟩

/-- Settles O2: the decoders evaluated on the spec's words. -/
theorem specWordsDecodeToTheirInstructions : Obligations.SpecWordsDecodeToTheirInstructions := by
  unfold Obligations.SpecWordsDecodeToTheirInstructions
  decide

/-! ### The rows a command word matches (30 R47) -/

/-- A command word is put together from its fields. -/
theorem commandWord_extract (w : CommandWord) :
    commandWord (w.extractLsb' 36 4) (w.extractLsb' 32 4) (w.extractLsb' 0 32) = w :=
  calc w.extractLsb' 36 4 ++ w.extractLsb' 32 4 ++ w.extractLsb' 0 32
    _ = w.extractLsb' 32 8 ++ w.extractLsb' 0 32 := by
      rw [BitVec.extractLsb'_append_extractLsb'_eq_extractLsb' (show 36 = 32 + 4 from rfl)]
    _ = w.extractLsb' 0 40 := BitVec.extractLsb'_append_extractLsb'_eq_extractLsb' rfl
    _ = w := BitVec.extractLsb'_eq_self

/-- A HOST row's pattern and mask have bits in the OP field alone. -/
def ReadsOp (r : Row) : Prop :=
  r.mask = ((BitVec.ofNat 4 (r.mask / 2 ^ 36)) ++ 0#36).toNat ∧
  r.pattern = ((BitVec.ofNat 4 (r.pattern / 2 ^ 36)) ++ 0#36).toNat

/-- The OP values that a HOST row admits. -/
def admitsOp (r : Row) (op : BitVec 4) : Bool :=
  op &&& BitVec.ofNat 4 (r.mask / 2 ^ 36) == BitVec.ofNat 4 (r.pattern / 2 ^ 36)

theorem hostRows_readsOp : ∀ r ∈ hostRows, ReadsOp r := by
  unfold ReadsOp
  decide

theorem ReadsOp.admits_commandWord {r : Row} (h : ReadsOp r) (op addr : BitVec 4) (data : Reg) :
    r.admits (commandWord op addr data).toNat = admitsOp r op := by
  obtain ⟨hmask, hpattern⟩ := h
  rw [Row.admits, admitsOp]
  conv_lhs => rw [hmask, hpattern]
  rw [← BitVec.toNat_and, Laws.EncodedRow.commandWord_and, Bool.eq_iff_iff]
  simp only [beq_iff_eq, BitVec.toNat_inj]
  refine ⟨fun heq => ?_, fun heq => by rw [heq]⟩
  have hop := congrArg (BitVec.extractLsb' 36 4) heq
  rwa [BitVec.extractLsb'_append_eq_left, BitVec.extractLsb'_append_eq_left] at hop

/-- The mnemonic the decoder gives is that of the one row that admits the word's OP. -/
theorem hostRows_filter_admitsOp (op addr : BitVec 4) (data : Reg) :
    (hostRows.filter (admitsOp · op)).map Row.mnemonic = [(decodeHost (commandWord op addr data)).mnemonic] := by
  have hdecode : (decodeHost (commandWord op addr data)).mnemonic =
      if op = 1#4 then "CFGW" else if op = 2#4 then "CFGR" else if op = 3#4 then "START"
      else if op = 4#4 then "SAMPLE" else if op = 5#4 then "END" else "RESERVED" := by
    simp only [decodeHost, commandWord_op]
    repeat' split
    all_goals rfl
  rw [hdecode]
  clear hdecode
  revert op
  decide

/-- Settles O4: the HOST rows read OP alone, and each OP has one row. -/
theorem everyCommandWordMatchesOneHostRow : Obligations.EveryCommandWordMatchesOneHostRow := by
  intro w
  rw [← commandWord_extract w, ← hostRows_filter_admitsOp]
  congr 1
  exact List.filter_congr fun r hr => (hostRows_readsOp r hr).admits_commandWord _ _ _

end Sys2Proof.Proofs
end

section
/-! The SAMPLE step: the WAIT row and the BX row it performs, what the BitExtractor's part leaves alone, and what
the EdgeWaiter's part writes. -/

namespace Sys2Proof.Proofs

open Sys2Proof.Machine

/-! ### The WAIT row (30 R49) -/

theorem decodeWait_append (v t e s : Bool) :
    decodeWait (BitVec.ofBool v ++ BitVec.ofBool t ++ BitVec.ofBool e ++ BitVec.ofBool s) =
      if !v then .refSample t e s
      else if e then (if s then .edgeRise t else .edgeFall t)
      else if t then .timeout s
      else .waitNone s := by
  revert v t e s; decide

/-- The EdgeWaiter performs the row that its selector {v,t,e,s} matches. -/
theorem edgeWaiterStep_eq_exec (level : Bool) (s : State) :
    edgeWaiterStep level s = exec (decodeWait (waitSel level s)) s := by
  rw [waitSel, decodeWait_append]
  unfold edgeWaiterStep
  dsimp only
  repeat' split
  all_goals rfl

theorem waitRows_filter (sel : BitVec 4) :
    (waitRows.filter (fun r => r.admits sel.toNat)).map Row.mnemonic = [(decodeWait sel).mnemonic] := by
  revert sel; decide

/-- Settles O5: the partition of the 16 selectors, and the selector that a running SAMPLE forms. -/
theorem samplePerformsTheWaitRowItsSelectorMatches :
    Obligations.SamplePerformsTheWaitRowItsSelectorMatches := by
  refine ⟨waitRows_filter, fun level s hrun => ?_⟩
  have hedge : decide (s.prev ≠ level) = xor s.prev level := by cases s.prev <;> cases level <;> rfl
  rw [exec_sample_of_running hrun, edgeWaiterStep_eq_exec, hedge]
  rfl

/-- The edge is looked at before the timeout (30 R49). -/
theorem edgeWaiterStep_of_edge {level : Bool} {s : State} (hvalid : s.prevValid = true) (hedge : s.prev ≠ level) :
    edgeWaiterStep level s = exec (if level then .edgeRise (timeoutDue s) else .edgeFall (timeoutDue s)) s := by
  have hxor : xor s.prev level = true := by simpa using hedge
  rw [edgeWaiterStep_eq_exec, waitSel, decodeWait_append, hvalid, hxor]
  rfl

/-- Settles O29: with an edge the row is EDGE_RISE or EDGE_FALL, whose operand t is then 1. -/
theorem edgeWinsOverACoincidingTimeout : Obligations.EdgeWinsOverACoincidingTimeout := by
  intro level s hrun hvalid hedge hdue
  have htimeout : timeoutDue s = true := decide_eq_true hdue
  rw [exec_sample_of_running hrun, edgeWaiterStep_of_edge hvalid hedge, htimeout]

/-! ### QUALIFY (30 R50, 41 R73) -/

theorem qualify_eq (cond : BitVec 2) (b : Bool) :
    qualify cond b =
      if b then (if cond = 1#2 then 2#2 else if cond = 2#2 then 1#2 else cond) else cond := by
  revert cond b; decide

/-- Settles O32: the value returned is `qualify`, a table of eight entries. -/
theorem qualifyFollowsTheLinePolarity : Obligations.QualifyFollowsTheLinePolarity := by
  intro b cond s
  refine ⟨qualify cond b, rfl, ?_⟩
  revert b cond
  decide

/-! ### The BX row (30 R51) -/

/-- The BitExtractor performs the first row that its selector {bx,qev} matches. -/
theorem bxStep_eq_exec (q : BitVec 2) (i : Index) (s : State) :
    bxStep q i s = exec (decodeBx (s.bx ++ q) i) s := by
  have hbx : (s.bx ++ q).extractLsb' 2 2 = s.bx := BitVec.extractLsb'_append_eq_left
  have hqev : (s.bx ++ q).extractLsb' 0 2 = q := BitVec.extractLsb'_append_eq_right
  unfold bxStep decodeBx
  rw [hbx, hqev]
  simp only [apply_ite (exec · s)]
  rfl

theorem bxRows_head (sel : BitVec 4) (i : Index) :
    ((bxRows.filter (fun r => r.admits sel.toNat)).map Row.mnemonic).head? = some (decodeBx sel i).mnemonic := by
  have hoperand : (decodeBx sel i).mnemonic = (decodeBx sel 0#64).mnemonic := by
    simp only [decodeBx, apply_ite Instr.mnemonic]
    rfl
  rw [hoperand]
  clear hoperand
  revert sel
  decide

/-- Settles O33: BX_NOP and the five BX_IGN rows answer the state they are given. -/
theorem unlistedCombinationsChangeNothing : Obligations.UnlistedCombinationsChangeNothing :=
  fun _ _ => ⟨rfl, rfl, rfl, rfl, rfl, rfl⟩

/-! ### A sample after the reference sample (41 R67) -/

theorem exec_sample_of_prevValid {s : State} (hrun : s.run = .running) (hvalid : s.prevValid = true) (level : Bool) :
    exec (.sample level) s = waitReturn (sampleCond level s) level s := by
  rw [exec_sample_of_running hrun, edgeWaiterStep_eq hvalid]

theorem exec_edgeRise (t : Bool) (s : State) : exec (.edgeRise t) s = waitReturn condRise true s := rfl

theorem exec_edgeFall (t : Bool) (s : State) : exec (.edgeFall t) s = waitReturn condFall false s := rfl

theorem exec_timeout (level : Bool) (s : State) : exec (.timeout level) s = waitReturn condInactive level s := rfl

theorem sampleCond_timeout {level : Bool} {s : State} (hprev : s.prev = level)
    (hdue : s.idle.toNat + 1 = s.timeout.toNat) : sampleCond level s = condInactive := by
  simp [sampleCond, timeoutDue, hprev, hdue, condInactive]

/-- Settles O6: `bxRows` in priority order, and the wait return's BitExtractor step as the row it performs; the new
count is `advance`'s. -/
theorem samplePerformsTheFirstBxRowItsSelectorMatches :
    Obligations.SamplePerformsTheFirstBxRowItsSelectorMatches := by
  refine ⟨bxRows_head, fun level s hrun hvalid hidx => ?_⟩
  dsimp only
  have hcond : (if s.prev ≠ level then (if level then 1#2 else 2#2)
      else if s.idle.toNat + 1 = s.timeout.toNat then 3#2 else 0#2) = sampleCond level s := by
    simp [sampleCond, timeoutDue]
  rw [hcond]
  have hqev := qualify_eq (sampleCond level s) (bidir s)
  refine ⟨(s.advance (sampleCond level s) level).idle, fun h => if_neg h, fun h hlt => ?_, ?_⟩
  · rw [State.advance_idle, if_pos h, idleSucc_toNat hlt]
  · rw [exec_sample_of_prevValid hrun hvalid, waitReturn_eq_bxStep hidx, bxStep_eq_exec, hqev]
    rfl

/-- Settles O23: the wait return refuses the last index before anything else. -/
theorem samplePastTheLastIndexIsRefused : Obligations.SamplePastTheLastIndexIsRefused := by
  intro level s hrun hvalid hidx
  rw [exec_sample_of_prevValid hrun hvalid, waitReturn, if_pos hidx]

/-! ### What the BitExtractor leaves alone -/

/-- The registers and ports that are neither the BitExtractor's nor the FrameAssembler's nor the event stream. -/
structure KeepsFrontEnd (s t : State) : Prop where
  ctrl : t.ctrl = s.ctrl
  samplerate : t.samplerate = s.samplerate
  run : t.run = s.run
  fault : t.fault = s.fault
  period : t.period = s.period
  timeout : t.timeout = s.timeout
  prevValid : t.prevValid = s.prevValid
  prev : t.prev = s.prev
  idle : t.idle = s.idle
  idx : t.idx = s.idx
  rdata : t.rdata = s.rdata
  result : t.result = s.result
  input : t.input = s.input

theorem KeepsFrontEnd.trans {s t u : State} (h : KeepsFrontEnd s t) (k : KeepsFrontEnd t u) : KeepsFrontEnd s u where
  ctrl := k.ctrl.trans h.ctrl
  samplerate := k.samplerate.trans h.samplerate
  run := k.run.trans h.run
  fault := k.fault.trans h.fault
  period := k.period.trans h.period
  timeout := k.timeout.trans h.timeout
  prevValid := k.prevValid.trans h.prevValid
  prev := k.prev.trans h.prev
  idle := k.idle.trans h.idle
  idx := k.idx.trans h.idx
  rdata := k.rdata.trans h.rdata
  result := k.result.trans h.result
  input := k.input.trans h.input

theorem boundary_keepsFrontEnd (s : State) : KeepsFrontEnd s s.boundary := by
  rw [State.boundary_eq]
  constructor <;> rfl

/-- None of the source's four transitions writes outside the BitExtractor, the buffer and the events. -/
theorem bxStep_keepsFrontEnd {q : BitVec 2} {i : Index} {s t : State} (h : bxStep q i s = .next t) :
    KeepsFrontEnd s t := by
  obtain ⟨-, ⟨rfl, -⟩ | ⟨-, -, rfl⟩ | ⟨-, -, rfl⟩ | ⟨-, -, rfl⟩ | ⟨-, -, rfl⟩⟩ := bxStep_cases h
  case inr.inr.inr.inr => exact .trans (by constructor <;> rfl) (boundary_keepsFrontEnd _)
  all_goals constructor <;> rfl

/-- A wait return short of the last index completes; its BitExtractor step keeps what the EdgeWaiter wrote. -/
theorem waitReturn_completes {s : State} (hidx : s.idx ≠ BitVec.allOnes 64) (hbx : s.bx ≠ 3#2) (c : BitVec 2)
    (level : Bool) : ∃ t, waitReturn c level s = .next t ∧ KeepsFrontEnd (s.advance c level) t ∧
      exec (decodeBx (s.bx ++ qualify c (bidir s)) (s.idx + 1#64)) (s.advance c level) = .next t := by
  have hbx' : (s.advance c level).bx ≠ 3#2 := by rwa [State.advance_bx]
  obtain ⟨t, ht⟩ := bxStep_completes (q := qualify c (bidir s)) (i := s.idx + 1#64) hbx'
  refine ⟨t, (waitReturn_eq_bxStep hidx c level).trans ht, bxStep_keepsFrontEnd ht, ?_⟩
  rwa [bxStep_eq_exec] at ht

/-- Settles O22: outside RUNNING `execSample` answers its state; in RUNNING the wait return completes. -/
theorem sampleConsumesOneSample : Obligations.SampleConsumesOneSample := by
  refine fun level s => ⟨fun h => if_neg h, fun hrun hvalid hidx hbx => ?_⟩
  obtain ⟨t, ht, k, -⟩ := waitReturn_completes hidx hbx (sampleCond level s) level
  exact ⟨t, (exec_sample_of_prevValid hrun hvalid level).trans ht, k.idx, k.prev, k.prevValid.trans hvalid, k.ctrl,
    k.samplerate, k.run, k.fault, k.period, k.timeout, k.rdata, k.result, k.input⟩

/-- A wait return with a condition restarts the count, whichever row reports it. -/
theorem waitReturn_restarts {c q : BitVec 2} {l : Bool} {s : State} (hidx : s.idx ≠ BitVec.allOnes 64)
    (hbx : s.bx ≠ 3#2) (hcond : c ≠ condNone) (hq : qualify c (bidir s) = q) :
    ∃ t : State, waitReturn c l s = .next t ∧
      exec (decodeBx (s.bx ++ q) (s.idx + 1#64)) { s with idx := s.idx + 1#64, prev := l, idle := 0#32 } = .next t ∧
      KeepsFrontEnd { s with idx := s.idx + 1#64, prev := l, idle := 0#32 } t := by
  have hadv : s.advance c l = { s with idx := s.idx + 1#64, prev := l, idle := 0#32 } := by
    rw [State.advance, if_neg hcond]
  obtain ⟨t, ht, k, hrow⟩ := waitReturn_completes hidx hbx c l
  rw [hadv] at k hrow
  exact ⟨t, ht, hq ▸ hrow, k⟩

/-- Settles O28: the three rows are wait returns with the conditions rise, fall and inactive. -/
theorem waitReturnsRestartTheCount : Obligations.WaitReturnsRestartTheCount := by
  intro te level s hidx hbx i l q hrow
  have hwait : ∃ c, exec i s = waitReturn c l s ∧ c ≠ condNone ∧ qualify c (bidir s) = q := by
    rcases hrow with ⟨rfl, rfl, rfl⟩ | ⟨rfl, rfl, rfl⟩ | ⟨rfl, rfl, rfl⟩
    · exact ⟨condRise, exec_edgeRise te s, by decide, rfl⟩
    · exact ⟨condFall, exec_edgeFall te s, by decide, rfl⟩
    · exact ⟨condInactive, exec_timeout _ s, by decide, rfl⟩
  obtain ⟨c, hexec, hcond, hq⟩ := hwait
  obtain ⟨t, ht, hbxrow, k⟩ := waitReturn_restarts (l := l) hidx hbx hcond hq
  exact ⟨t, hexec.trans ht, hbxrow, k.idx, k.prev, k.idle, k.ctrl, k.samplerate, k.run, k.fault, k.period, k.timeout,
    k.prevValid, k.rdata, k.result, k.input⟩

/-! ### The EdgeWaiter's registers after a SAMPLE (41 R67, R68, R74) -/

/-- What a running SAMPLE that completes leaves in the EdgeWaiter, from the level, TIMEOUT and the EdgeWaiter. -/
theorem exec_sample_edgeWaiter {level : Bool} {s t : State} (hrun : s.run = .running)
    (h : exec (.sample level) s = .next t) :
    t.prevValid = true ∧ t.prev = level ∧
    t.idle = (if s.prevValid ∧ sampleCond level s = 0#2 then idleSucc s.idle else 0#32) ∧
    t.idx = if s.prevValid then s.idx + 1#64 else 0#64 := by
  rcases execSample_cases h with ⟨hne, -⟩ | ⟨-, hvalid, rfl⟩ | ⟨-, hvalid, -, hstep⟩
  · exact absurd hrun hne
  · simp [hvalid]
  · have k := bxStep_keepsFrontEnd hstep
    simp [k.prevValid, k.prev, k.idle, k.idx, hvalid]

/-- Settles O31: the four registers are functions of the level, TIMEOUT and the EdgeWaiter's own. -/
theorem edgeWaiterIgnoresTheOtherUnits : Obligations.EdgeWaiterIgnoresTheOtherUnits := by
  intro level s s' t t' hrun hrun' hvalid hprev hidle hidx htimeout h h'
  have hcond : sampleCond level s = sampleCond level s' := by
    rw [sampleCond, sampleCond, timeoutDue, timeoutDue, hprev, hidle, htimeout]
  obtain ⟨v, p, c, i⟩ := exec_sample_edgeWaiter hrun h
  obtain ⟨v', p', c', i'⟩ := exec_sample_edgeWaiter hrun' h'
  rw [v, v', p, p', c, c', i, i', hvalid, hidle, hidx, hcond]
  exact ⟨rfl, rfl, rfl, rfl⟩

/-! ### A line without edges (41 R72) -/

/-- One quiet sample below the threshold (41 R69), with the new registers as numbers. -/
theorem exec_sample_quiet {s : State} (hrun : s.run = .running) (hvalid : s.prevValid = true) (hbx : s.bx ≠ 3#2)
    (hidx : s.idx.toNat + 1 < 2 ^ 64) (hbelow : s.idle.toNat + 1 < s.timeout.toNat) :
    ∃ u : State, exec (.sample s.prev) s = .next u ∧ u = { s with idx := u.idx, idle := u.idle } ∧
      u.idx.toNat = s.idx.toNat + 1 ∧ u.idle.toNat = s.idle.toNat + 1 := by
  have hlast : s.idx ≠ BitVec.allOnes 64 := by
    intro h
    simp [h] at hidx
  have hcount : s.idle.toNat + 1 < 2 ^ 32 := by have := s.timeout.isLt; omega
  obtain ⟨-, hsample⟩ := quietSampleOnlyCounts s.prev s hlast hbx hcount
  refine ⟨_, hsample hrun hvalid rfl hbelow, rfl, ?_, ?_⟩
  · exact BitVec.toNat_add_of_lt hidx
  · exact BitVec.toNat_add_of_lt hcount

/-- Settles O30, by induction on the number of quiet samples. -/
theorem inactivityFiresAfterTimeoutQuietSamples : Obligations.InactivityFiresAfterTimeoutQuietSamples := by
  intro k
  induction k with
  | zero =>
    intro s hrun hvalid _ _ _
    refine ⟨s, rfl, rfl, rfl, rfl, fun hdue => ?_⟩
    rw [exec_sample_of_prevValid hrun hvalid, sampleCond_timeout rfl hdue, exec_timeout]
  | succ k ih =>
    intro s hrun hvalid hbx hidx hidle
    obtain ⟨u, hsample, hu, huidx, huidle⟩ := exec_sample_quiet hrun hvalid hbx (by omega) (by omega)
    have hprev : u.prev = s.prev := by rw [hu]
    have htimeout : u.timeout = s.timeout := by rw [hu]
    obtain ⟨t, hfeed, ht, htidx, htidle, hfires⟩ := ih u (by rw [hu]; exact hrun) (by rw [hu]; exact hvalid)
      (by rw [hu]; exact hbx) (by omega) (by rw [htimeout]; omega)
    rw [hprev] at hfeed hfires
    rw [htimeout] at hfires
    refine ⟨t, ?_, ?_, by omega, by omega, fun hdue => hfires (by omega)⟩
    · rw [List.replicate_succ, Safety.feed, hsample]
      exact hfeed
    · rw [ht, hu]

end Sys2Proof.Proofs
end

section
/-! The host commands and the step: what a step takes from the input, everything that a command which completes can do
to the state, and the run control and configuration that follow from it. -/

namespace Sys2Proof.Proofs

open Sys2Proof.Machine

/-! ### The step (40 R59, 60 R124, 70 R125) -/

/-- Settles O8: `fetch` finds the command, and the ports are undriven before it runs. -/
theorem stepRunsTheDecodedCommand : Obligations.StepRunsTheDecodedCommand := by
  intro s w rest hin hbx
  rcases step_cases s with ⟨hnone, -⟩ | ⟨_, hreset, -⟩ | ⟨_, _, -, hreserved, -⟩ | ⟨w', rest', hin', -, hexec⟩
  · simp [hin] at hnone
  · simp [hin] at hreset
  · exact absurd hreserved hbx
  · obtain ⟨⟨rfl⟩, rfl⟩ := List.cons.inj (hin.symm.trans hin')
    exact hexec

/-- Settles O9: with an empty input the step only undrives the ports. -/
theorem stepWithoutCommandHoldsTheState : Obligations.StepWithoutCommandHoldsTheState := by
  intro s hin
  rcases step_cases s with ⟨-, hexec⟩ | ⟨_, hreset, -⟩ | ⟨_, _, hcommand, -⟩ | ⟨_, _, hcommand, -⟩
  · exact hexec
  · simp [hin] at hreset
  · simp [hin] at hcommand
  · simp [hin] at hcommand

theorem step_of_resetLine {s : State} {rest : List HostInput} (hin : s.input = .resetLine :: rest) :
    step s = .next { State.reset with input := rest } := by
  rcases step_cases s with ⟨hnone, -⟩ | ⟨_, hreset, hexec⟩ | ⟨_, _, hcommand, -⟩ | ⟨_, _, hcommand, -⟩
  · simp [hin] at hnone
  · obtain ⟨-, rfl⟩ := List.cons.inj (hin.symm.trans hreset)
    exact hexec
  · simp [hin] at hcommand
  · simp [hin] at hcommand

/-- Settles O10: the state that follows is `State.reset` with the inputs still waiting. -/
theorem resetInputRestoresResetValues : Obligations.ResetInputRestoresResetValues := by
  intro s rest hin
  exact ⟨_, step_of_resetLine hin,
    rfl, rfl, rfl, rfl, rfl, rfl, -- ctrl, samplerate, run, fault, period, timeout
    rfl, rfl, rfl, rfl,           -- prevValid, prev, idle, idx
    rfl, rfl, rfl, rfl, rfl,      -- bx, pcStart, pcEnd, shift, bcnt
    rfl, rfl, rfl,                -- firstStart, nibStart, lastNext
    rfl, rfl, rfl⟩                -- events, rdata, input

/-! ### Register accesses (20 R38, 10 R31) -/

theorem writeReg_writeReg (a : BitVec 4) (d : Reg) (s : State) : writeReg a d (writeReg a d s) = writeReg a d s := by
  rcases writeReg_cases a d s with ⟨rfl, -⟩ | ⟨rfl, -⟩ | ⟨-, -, hw⟩
  · rfl
  · rfl
  · rw [hw, hw]

theorem writeReg_run (a : BitVec 4) (d : Reg) (s : State) : (writeReg a d s).run = s.run := by
  rcases writeReg_cases a d s with ⟨-, hw⟩ | ⟨-, hw⟩ | ⟨-, -, hw⟩ <;> rw [hw]

/-- Settles O14: a read does not see the port it drives, and a write is `writeReg` or nothing. -/
theorem registerAccessesAreIdempotent : Obligations.RegisterAccessesAreIdempotent := by
  refine ⟨fun a s t h => ?_, fun a d s t h => ?_⟩
  · cases h
    exact exec_cfgr a _
  · by_cases hrun : s.run = .running
    · cases h.symm.trans (exec_cfgw_of_running hrun a d)
      exact h
    · cases h.symm.trans (exec_cfgw_of_not_running hrun a d)
      rw [exec_cfgw_of_not_running (by rwa [writeReg_run]), writeReg_writeReg]

/-- Settles O15: the registers that `readReg` names are those of the hypotheses. -/
theorem hiddenStateIsNotReadable : Obligations.HiddenStateIsNotReadable := by
  intro a s t hctrl hsr hrun hfault hperiod htimeout hbx hbcnt
  have hread : readReg a t = readReg a s := by
    rw [readReg, readReg, statusWord, statusWord, hctrl, hsr, hrun, hfault, hperiod, htimeout, hbx, hbcnt]
  refine ⟨readReg a s, exec_cfgr a s, ?_⟩
  rw [exec_cfgr, hread]
  rfl

/-! ### START (40 R62 to R64, 60 R108, R109) -/

/-- Settles O16: R62's first line. -/
theorem startInRunningIsIgnored : Obligations.StartInRunningIsIgnored := by
  intro s hrun
  rcases execStart_cases s with ⟨-, hexec⟩ | ⟨hne, -⟩ | ⟨hne, -⟩ | ⟨hne, -⟩
  · exact hexec
  all_goals exact absurd hrun hne

/-- A START whose N is 0 fails; SampleRateMissing is checked first. -/
theorem exec_start_of_nominalPeriod_zero {s : State} (hrun : s.run ≠ .running)
    (hn : nominalPeriod s.samplerate (rate s) = 0) :
    exec .start s = .next (s.clearDatapath.raiseFault (if s.samplerate = 0#32 then 1#4 else 2#4)) := by
  rcases execStart_cases s with ⟨h, -⟩ | ⟨-, hsr, hexec⟩ | ⟨-, hsr, -, hexec⟩ | ⟨-, -, hne, -⟩
  · exact absurd h hrun
  · rw [if_pos hsr]
    exact hexec
  · rw [if_neg hsr]
    exact hexec
  · exact absurd hn hne

/-- Settles O17: the failing START's writes are `clearDatapath`'s and `raiseFault`'s. -/
theorem failedStartTakesTheFault : Obligations.FailedStartTakesTheFault := by
  intro s m hrun hm hn
  have hN : nominalPeriod s.samplerate (rate s) = 0 := by rw [nominalPeriod_eq, rate, ← hm, hn]
  exact exec_start_of_nominalPeriod_zero hrun hN

/-- The value that the boot sequence writes to CTRL has RATE and BIDIR alone, which CTRL keeps. -/
theorem ctrl_fields (r : BitVec 2) (d : Bool) :
    (0#29 ++ r ++ BitVec.ofBool d) &&& 7#32 = 0#29 ++ r ++ BitVec.ofBool d ∧
    (0#29 ++ r ++ BitVec.ofBool d).getLsbD 0 = d ∧ (0#29 ++ r ++ BitVec.ofBool d).extractLsb' 1 2 = r := by
  revert r d; decide

/-- Settles O19: the two writes leave the configuration whose N decides the START. -/
theorem bootSequenceBeginsARunOrFaults : Obligations.BootSequenceBeginsARunOrFaults := by
  intro s a b sr r d hrun ha hb
  obtain ⟨hmask, hbidir, hrate⟩ := ctrl_fields r d
  obtain rfl : a = { s with samplerate := sr } := by
    rw [exec_cfgw_of_not_running hrun, writeReg_samplerate] at ha
    cases ha
    rfl
  obtain rfl : b = { s with samplerate := sr, ctrl := 0#29 ++ r ++ BitVec.ofBool d } := by
    rw [exec_cfgw_of_not_running (s := { s with samplerate := sr }) hrun, writeReg_ctrl, hmask] at hb
    cases hb
    rfl
  have hN : nominalPeriod sr r = sr.toNat * [667, 333, 167, 83].getD r.toNat 0 / 100000000 := nominalPeriod_eq sr r
  generalize sr.toNat * [667, 333, 167, 83].getD r.toNat 0 = product at hN ⊢
  by_cases hn : nominalPeriod sr r = 0
  · refine ⟨_, exec_start_of_nominalPeriod_zero hrun (by rwa [rate, hrate]), rfl, hbidir, hrate, ?_, ?_,
      fun hzero => if_pos hzero⟩
    · simp only [State.raiseFault_run, reduceCtorEq, false_iff]
      omega
    · simp only [State.raiseFault_run, true_iff]
      omega
  · refine ⟨_, exec_start_of_nominalPeriod_ne_zero hrun (by rwa [rate, hrate]), rfl, hbidir, hrate, ?_, ?_,
      fun hzero => absurd (by rw [hzero, nominalPeriod_zero]) hn⟩
    · simp only [State.enterRunning_run, true_iff]
      omega
    · simp only [State.enterRunning_run, reduceCtorEq, false_iff]
      omega

/-! ### Reserved OPs (30 R52) -/

/-- Settles O21: the three reserved rows answer the state they are given. -/
theorem reservedOpsDoNothing : Obligations.ReservedOpsDoNothing := fun _ _ _ _ _ => ⟨rfl, rfl, rfl⟩

/-! ### Every command that completes -/

/-- What a host command that completes can do to a state; a SAMPLE's cases are its own. -/
inductive CommandStep (s : State) : Instr → State → Prop where
  | cfgwDropped (a : BitVec 4) (d : Reg) (hrun : s.run = .running) : CommandStep s (.cfgw a d) s
  | cfgw (a : BitVec 4) (d : Reg) (hrun : s.run ≠ .running) : CommandStep s (.cfgw a d) (writeReg a d s)
  | cfgr (a : BitVec 4) : CommandStep s (.cfgr a) (s.respond (readReg a s))
  | startIgnored (hrun : s.run = .running) : CommandStep s .start s
  | startFails (hrun : s.run ≠ .running) (code : BitVec 4) (hcode : code = 1#4 ∨ code = 2#4) :
      CommandStep s .start (s.clearDatapath.raiseFault code)
  | startPasses (hrun : s.run ≠ .running) (hn : nominalPeriod s.samplerate (rate s) ≠ 0) :
      CommandStep s .start (s.clearDatapath.enterRunning (nominalPeriod s.samplerate (rate s)))
  | sample (level : Bool) (t : State) (h : exec (.sample level) s = .next t) : CommandStep s (.sample level) t
  | ends (hrun : s.run = .running) : CommandStep s .endStream { s with run := .exhausted }
  | endIgnored (hrun : s.run ≠ .running) : CommandStep s .endStream s
  | reserved (i : Instr) (hname : i.mnemonic = "RESERVED") : CommandStep s i s

theorem commandStep_of_exec {w : CommandWord} {s t : State} (h : exec (decodeHost w) s = .next t) :
    CommandStep s (decodeHost w) t := by
  rcases decodeHost_cases w with ⟨a, d, hw⟩ | ⟨a, hw⟩ | hw | ⟨l, hw⟩ | hw | ⟨a, d, hw⟩ | ⟨o, a, d, hw⟩ | ⟨o, a, d, hw⟩ <;>
    rw [hw] at h ⊢
  · rcases execCfgw_cases a d s with ⟨hrun, hexec⟩ | ⟨hrun, hexec⟩ <;> cases h.symm.trans hexec
    · exact .cfgwDropped a d hrun
    · exact .cfgw a d hrun
  · cases h
    exact .cfgr a
  · rcases execStart_cases s with ⟨hrun, hexec⟩ | ⟨hrun, -, hexec⟩ | ⟨hrun, -, -, hexec⟩ | ⟨hrun, -, hn, hexec⟩ <;>
      cases h.symm.trans hexec
    · exact .startIgnored hrun
    · exact .startFails hrun _ (.inl rfl)
    · exact .startFails hrun _ (.inr rfl)
    · exact .startPasses hrun hn
  · exact .sample l t h
  · by_cases hrun : s.run = .running
    · cases h.symm.trans (exec_endStream_of_running hrun)
      exact .ends hrun
    · cases h.symm.trans (exec_endStream_of_not_running hrun)
      exact .endIgnored hrun
  all_goals
    cases h
    exact .reserved _ rfl

/-! ### Run control and configuration (10 R17, R18, 20 R44, 70 R128) -/

/-- The configuration and run-control registers. -/
structure SameControl (s t : State) : Prop where
  ctrl : t.ctrl = s.ctrl
  samplerate : t.samplerate = s.samplerate
  run : t.run = s.run
  fault : t.fault = s.fault
  period : t.period = s.period
  timeout : t.timeout = s.timeout

theorem exec_sample_sameControl {level : Bool} {s t : State} (h : exec (.sample level) s = .next t) :
    SameControl s t := by
  rcases execSample_cases h with ⟨-, rfl⟩ | ⟨-, -, rfl⟩ | ⟨-, -, -, hstep⟩
  · exact ⟨rfl, rfl, rfl, rfl, rfl, rfl⟩
  · exact ⟨rfl, rfl, rfl, rfl, rfl, rfl⟩
  · have k := bxStep_keepsFrontEnd hstep
    exact ⟨k.ctrl, k.samplerate, k.run, k.fault, k.period, k.timeout⟩

/-- Settles O24: of the commands' cases only a START outside RUNNING and an END in RUNNING change run. -/
theorem onlyStartAndEndChangeTheRunState : Obligations.OnlyStartAndEndChangeTheRunState := by
  intro w s t h hne
  have hcases := commandStep_of_exec h
  generalize decodeHost w = i at hcases ⊢
  cases hcases with
  | startFails hrun code hcode => exact .inl ⟨rfl, hrun, .inr ⟨rfl, hcode⟩⟩
  | startPasses hrun hn => exact .inl ⟨rfl, hrun, .inl ⟨rfl, rfl⟩⟩
  | ends hrun => exact .inr ⟨rfl, hrun, rfl⟩
  | cfgw a d => exact absurd (writeReg_run a d s) hne
  | sample level t h => exact absurd (exec_sample_sameControl h).run hne
  | _ => exact absurd rfl hne

/-- Settles O25: each case of a command against the three clauses. -/
theorem runningFreezesTheConfiguration : Obligations.RunningFreezesTheConfiguration := by
  intro w s t h
  have hcases := commandStep_of_exec h
  generalize decodeHost w = i at hcases ⊢
  cases hcases with
  | cfgw a d hrun =>
    refine ⟨fun h => absurd h hrun, fun _ => ?_, fun h => absurd rfl (h a d)⟩
    rcases writeReg_cases a d s with ⟨-, hw⟩ | ⟨-, hw⟩ | ⟨-, -, hw⟩ <;> rw [hw] <;> exact ⟨rfl, rfl, rfl⟩
  | startFails hrun => exact ⟨fun h => absurd h hrun, fun h => absurd rfl h, fun _ => ⟨rfl, rfl⟩⟩
  | startPasses hrun => exact ⟨fun h => absurd h hrun, fun h => absurd rfl h, fun _ => ⟨rfl, rfl⟩⟩
  | sample level t h =>
    have k := exec_sample_sameControl h
    exact ⟨fun _ => ⟨k.ctrl, k.samplerate, k.period, k.timeout, k.fault⟩, fun _ => ⟨k.period, k.timeout, k.fault⟩,
      fun _ => ⟨k.ctrl, k.samplerate⟩⟩
  | _ => exact ⟨fun _ => ⟨rfl, rfl, rfl, rfl, rfl⟩, fun _ => ⟨rfl, rfl, rfl⟩, fun _ => ⟨rfl, rfl⟩⟩

end Sys2Proof.Proofs
end

section
/-! What a SAMPLE does in a state of the invariant (10_state R21 to R24, 42 R90): seven cases, in which the bit that a
trailing edge completes is the source's. -/

namespace Sys2Proof.Proofs

open Sys2Proof.Machine Sys2Proof.Safety

/-! ### The qualified event of a sample -/

/-- Edges are start edges toward the active level and end edges away from it; without an edge the timeout counts. -/
theorem qualify_sampleCond_cases (level : Bool) (s : State) :
    (s.prev ≠ level ∧ level = activeLevel s ∧ qualify (sampleCond level s) (bidir s) = 1#2) ∨
    (s.prev ≠ level ∧ level = !activeLevel s ∧ qualify (sampleCond level s) (bidir s) = 2#2) ∨
    (s.prev = level ∧ s.idle.toNat + 1 = s.timeout.toNat ∧ qualify (sampleCond level s) (bidir s) = 3#2) ∨
    (s.prev = level ∧ s.idle.toNat + 1 ≠ s.timeout.toNat ∧ sampleCond level s = 0#2 ∧
      qualify (sampleCond level s) (bidir s) = 0#2) := by
  by_cases hprev : s.prev = level
  · by_cases hdue : s.idle.toNat + 1 = s.timeout.toNat
    · exact .inr (.inr (.inl ⟨hprev, hdue, by rw [sampleCond_timeout hprev hdue]; rfl⟩))
    · have hcond : sampleCond level s = 0#2 := by simp [sampleCond, timeoutDue, hprev, hdue]
      exact .inr (.inr (.inr ⟨hprev, hdue, hcond, by rw [hcond]; rfl⟩))
  · have hactive : activeLevel s = !bidir s := rfl
    rw [hactive]
    cases level <;> cases bidir s <;> simp [sampleCond, hprev, qualify, condRise, condFall, qevStartEdge, qevEndEdge]

/-- An edge restarts the count, and so does the timeout: only no condition lets it grow. -/
theorem sampleCond_ne_of_qualify_ne {level : Bool} {s : State} (h : qualify (sampleCond level s) (bidir s) ≠ 0#2) :
    sampleCond level s ≠ 0#2 := by
  intro hcond
  rw [hcond] at h
  exact h rfl

/-! ### The EdgeWaiter's registers under the invariant -/

/-- The registers after the EdgeWaiter's part of a sample after the reference sample. -/
abbrev afterWait (level : Bool) (s : State) : State := s.advance (sampleCond level s) level

theorem toNat_add_one_of_ne_allOnes {i : Index} (h : i ≠ BitVec.allOnes 64) : (i + 1#64).toNat = i.toNat + 1 := by
  have hne : i.toNat ≠ 2 ^ 64 - 1 := fun heq => h (BitVec.eq_of_toNat_eq (by simpa using heq))
  have := i.isLt
  exact BitVec.toNat_add_of_lt (show i.toNat + 1 < 2 ^ 64 by omega)

theorem three_le_timeout {s : State} (hs : Inv s) (hrun : s.run = .running) : 3 ≤ s.timeout.toNat := by
  have hperiod := hs.control.period_live (.inl hrun)
  have htimeout := hs.control.timeout_eq
  omega

/-- R21: the count stays below TIMEOUT, since the sample that would make it TIMEOUT restarts it; and it grows no
faster than the index. -/
theorem afterWait_idle {level : Bool} {s : State} (hs : Inv s) (hrun : s.run = .running) (hvalid : s.prevValid = true) :
    (afterWait level s).idle.toNat < s.timeout.toNat ∧ (afterWait level s).idle.toNat ≤ s.idx.toNat + 1 := by
  have htimeout := three_le_timeout hs hrun
  have hlt := hs.pulse.idle_lt hvalid
  have hle := hs.pulse.idle_le
  rw [State.advance_idle]
  split
  · next hcond =>
    have hdue : s.idle.toNat + 1 ≠ s.timeout.toNat := by
      rcases qualify_sampleCond_cases level s with ⟨-, -, hq⟩ | ⟨-, -, hq⟩ | ⟨-, -, hq⟩ | ⟨-, hdue, -⟩
      case inr.inr.inr => exact hdue
      all_goals exact absurd hcond (sampleCond_ne_of_qualify_ne (by rw [hq]; decide))
    have := s.timeout.isLt
    rw [idleSucc_toNat (by omega)]
    omega
  · simp only [BitVec.toNat_ofNat]
    omega

/-! ### The two bits -/

/-- At the next start edge R77 states the bit's value. -/
theorem decodedBit_afterWait {s : State} (hs : Inv s) (hbx : s.bx = 2#2) (level : Bool)
    (hidx : s.idx ≠ BitVec.allOnes 64) :
    decodedBit (s.idx + 1#64) (afterWait level s) = completedBit (s.idx + 1#64) s := by
  have hbounded := hs.pulse.bounded hbx
  have hidle := hs.pulse.bounded_idle hbx
  have hnext := toNat_add_one_of_ne_allOnes hidx
  exact decodedBit_eq_completedBit (s := afterWait level s) hbounded.le
    (show s.pcStart.toNat ≤ (s.idx + 1#64).toNat by omega)

/-- R83: at the timeout `pc_start + N` fits, for the index has already passed it. -/
theorem toNat_pcStart_add_period {s : State} (hs : Inv s) (hrun : s.run = .running) (hbx : s.bx = 2#2)
    (hdue : s.idle.toNat + 1 = s.timeout.toNat) :
    (s.pcStart + s.period.setWidth 64).toNat = s.pcStart.toNat + s.period.toNat := by
  have hbounded := hs.pulse.bounded hbx
  have hidle := hs.pulse.bounded_idle hbx
  have htimeout := hs.control.timeout_eq
  have hperiod := hs.control.period_live (.inl hrun)
  have hwidth : (s.period.setWidth 64).toNat = s.period.toNat := BitVec.toNat_setWidth_of_le (by decide)
  have := s.idx.isLt
  rw [BitVec.toNat_add_of_lt (by omega), hwidth]

theorem decodedBit_synthesized {s : State} (hs : Inv s) (hrun : s.run = .running) (hbx : s.bx = 2#2)
    (hdue : s.idle.toNat + 1 = s.timeout.toNat) (level : Bool) :
    decodedBit (synthesizedNext s.pcStart s.period) (afterWait level s) =
      completedBit (s.pcStart + s.period.setWidth 64) s := by
  have hnext := toNat_pcStart_add_period hs hrun hbx hdue
  rw [synthesizedNext_eq hnext]
  exact decodedBit_eq_completedBit (s := afterWait level s) (hs.pulse.bounded hbx).le
    (show s.pcStart.toNat ≤ (s.pcStart + s.period.setWidth 64).toNat by omega)

/-! ### The seven cases -/

/-- What a SAMPLE at `level` can do to a state of the invariant. -/
inductive SampleStep (level : Bool) (s : State) : State → Prop where
  /-- R65: no effect outside RUNNING. -/
  | ignored (hrun : s.run ≠ .running) : SampleStep level s s
  /-- R68: the reference sample. -/
  | reference (hrun : s.run = .running) (hvalid : s.prevValid = false) : SampleStep level s (s.reference level)
  /-- No transition: in Started only without an edge, in Bounded only without a condition. -/
  | hold (hrun : s.run = .running) (hvalid : s.prevValid = true) (hidx : s.idx ≠ BitVec.allOnes 64)
      (hstarted : s.bx = 1#2 → s.prev = level)
      (hbounded : s.bx = 2#2 → s.prev = level ∧ sampleCond level s = 0#2 ∧ s.idle.toNat + 1 ≠ s.timeout.toNat) :
      SampleStep level s (afterWait level s)
  /-- R80: a start edge in Idle. -/
  | begins (hrun : s.run = .running) (hvalid : s.prevValid = true) (hidx : s.idx ≠ BitVec.allOnes 64)
      (hbx : s.bx = 0#2) (hlevel : level = activeLevel s) :
      SampleStep level s ((afterWait level s).beginPulse (s.idx + 1#64))
  /-- R81: an end edge in Started. -/
  | bounds (hrun : s.run = .running) (hvalid : s.prevValid = true) (hidx : s.idx ≠ BitVec.allOnes 64)
      (hbx : s.bx = 1#2) (hlevel : level = !activeLevel s) (hcond : sampleCond level s ≠ 0#2) :
      SampleStep level s ((afterWait level s).boundPulse (s.idx + 1#64))
  /-- R82: a start edge in Bounded. -/
  | completes (hrun : s.run = .running) (hvalid : s.prevValid = true) (hidx : s.idx ≠ BitVec.allOnes 64)
      (hbx : s.bx = 2#2) (hlevel : level = activeLevel s) :
      SampleStep level s ((((afterWait level s).emit (cellEvent (completedBit (s.idx + 1#64) s))).appendBit
        (completedBit (s.idx + 1#64) s)).beginPulse (s.idx + 1#64))
  /-- R83: the timeout in Bounded. -/
  | finishes (hrun : s.run = .running) (hvalid : s.prevValid = true) (hidx : s.idx ≠ BitVec.allOnes 64)
      (hbx : s.bx = 2#2) (hlevel : level = !activeLevel s) (hdue : s.idle.toNat + 1 = s.timeout.toNat)
      (b : DecodedBit) (hb : b = completedBit (s.pcStart + s.period.setWidth 64) s) :
      SampleStep level s ({ afterWait level s with
        events := s.events ++ cellEvent b :: boundaryEvents (s.appendBit b), bx := 0#2 } : State).clearBuffer

/-- BX_FINAL's writes after the EdgeWaiter's, with the source's bit. -/
theorem bxFinal_afterWait {level : Bool} {s t : State} (hs : Inv s) (hrun : s.run = .running) (hbx : s.bx = 2#2)
    (hdue : s.idle.toNat + 1 = s.timeout.toNat) {b : DecodedBit}
    (hb : b = completedBit (s.pcStart + s.period.setWidth 64) s)
    (ht : exec .bxFinal (afterWait level s) = .next t) :
    t = ({ afterWait level s with
      events := s.events ++ cellEvent b :: boundaryEvents (s.appendBit b), bx := 0#2 } : State).clearBuffer := by
  have hbit := (decodedBit_synthesized hs hrun hbx hdue level).trans hb.symm
  exact Host.Outcome.next.inj (ht.symm.trans (exec_bxFinal hbit))

/-- A SAMPLE that completes is one of the seven cases: the line's level at an edge leaves no other transition. -/
theorem sampleStep_of_exec {level : Bool} {s t : State} (hs : Inv s) (h : exec (.sample level) s = .next t) :
    SampleStep level s t := by
  rcases execSample_cases h with ⟨hrun, rfl⟩ | ⟨hrun, hvalid, rfl⟩ | ⟨hrun, hvalid, hidx, hstep⟩
  · exact .ignored hrun
  · exact .reference hrun hvalid
  have hevent := qualify_sampleCond_cases level s
  have hprevStarted := hs.pulse.started_level hrun
  have hprevBounded := hs.pulse.bounded_level hrun
  generalize hq : qualify (sampleCond level s) (bidir s) = q at hstep hevent
  have hcond : q ≠ 0#2 → sampleCond level s ≠ 0#2 := hq ▸ sampleCond_ne_of_qualify_ne
  obtain ⟨-, ⟨rfl, -, hnotBound, hnotNext, hnotFinal⟩ | ⟨hbx, rfl, rfl⟩ | ⟨hbx, rfl, rfl⟩ | ⟨hbx, rfl, rfl⟩ |
    ⟨hbx, rfl, rfl⟩⟩ := bxStep_cases hstep
  · refine .hold hrun hvalid hidx (fun hbx => ?_) (fun hbx => ?_)
    · have hprev := hprevStarted hbx
      rcases hevent with ⟨hne, hlevel, -⟩ | ⟨-, -, hq⟩ | ⟨heq, -⟩ | ⟨heq, -⟩
      · exact absurd (hprev.trans hlevel.symm) hne
      · exact absurd ⟨hbx, hq⟩ hnotBound
      · exact heq
      · exact heq
    · have hprev := hprevBounded hbx
      rcases hevent with ⟨-, -, hq⟩ | ⟨hne, hlevel, -⟩ | ⟨-, -, hq⟩ | ⟨heq, hdue, hnone, -⟩
      · exact absurd ⟨hbx, hq⟩ hnotNext
      · exact absurd (hprev.trans hlevel.symm) hne
      · exact absurd ⟨hbx, hq⟩ hnotFinal
      · exact ⟨heq, hnone, hdue⟩
  all_goals rw [State.advance_bx] at hbx
  · obtain ⟨-, hlevel⟩ : s.prev ≠ level ∧ level = activeLevel s := by simpa using hevent
    exact .begins hrun hvalid hidx hbx hlevel
  · obtain ⟨-, hlevel⟩ : s.prev ≠ level ∧ level = !activeLevel s := by simpa using hevent
    exact .bounds hrun hvalid hidx hbx hlevel (hcond (by decide))
  · obtain ⟨-, hlevel⟩ : s.prev ≠ level ∧ level = activeLevel s := by simpa using hevent
    rw [State.produceBit_eq, decodedBit_afterWait hs hbx level hidx, bitEvent_eq_cellEvent]
    exact .completes hrun hvalid hidx hbx hlevel
  · obtain ⟨hprev, hdue⟩ : s.prev = level ∧ s.idle.toNat + 1 = s.timeout.toNat := by simpa using hevent
    rw [bxFinal_afterWait hs hrun hbx hdue rfl rfl]
    exact .finishes hrun hvalid hidx hbx (hprev.symm.trans (hprevBounded hbx)) hdue _ rfl

end Sys2Proof.Proofs
end

section
/-! The invariant (10_state R12 to R27): it holds at reset, every host command keeps it, and under it every step
completes short of the last sample index. -/

namespace Sys2Proof.Proofs

open Sys2Proof.Machine Sys2Proof.Safety

/-! ### Cleared registers -/

/-- In Idle the pulse's invariant is about the count alone. -/
theorem pulseInv_of_idle {s : State} (fresh : s.prevValid = false → DatapathClear s)
    (idle_lt : s.prevValid = true → s.idle.toNat < s.timeout.toNat) (idle_le : s.idle.toNat ≤ s.idx.toNat)
    (hbx : s.bx = 0#2) : PulseInv s where
  fresh := fresh
  idle_lt := idle_lt
  idle_le := idle_le
  bx_legal := by simp [hbx]
  started := by simp [hbx]
  started_level := by simp [hbx]
  bounded := by simp [hbx]
  bounded_idle := by simp [hbx]
  bounded_level := by simp [hbx]

theorem pulseInv_of_clear {s : State} (hvalid : s.prevValid = false) (h : DatapathClear s) : PulseInv s :=
  pulseInv_of_idle (fun _ => h) (by simp [hvalid]) (by simp [h.idle]) h.bx

theorem bufferInv_of_clear {s : State} (h : BufferClear s) : BufferInv s where
  idle_empty := fun _ => h.bcnt
  empty := fun _ => h
  span := fun hne => absurd h.bcnt hne
  contiguous := fun hne => absurd h.bcnt hne
  nibble := by simp [h.bcnt]
  no_nibble := fun _ => h.nibStart

theorem controlInv_reset : ControlInv State.reset := by
  constructor <;> decide

/-- Settles O55: at reset the control registers are 0 and the datapath and the buffer are clear. -/
theorem invariantHoldsAtReset : Obligations.InvariantHoldsAtReset where
  control := controlInv_reset
  pulse := pulseInv_of_clear rfl ⟨rfl, rfl, rfl, rfl, rfl, rfl⟩
  buffer := bufferInv_of_clear ⟨rfl, rfl, rfl, rfl, rfl⟩
  events_legal := by simp [State.reset]

/-! ### Host commands but SAMPLE -/

/-- A write to CTRL or SAMPLERATE: what the invariant says of them binds in RUNNING alone. -/
theorem inv_configured {s : State} (hs : Inv s) (hrun : s.run ≠ .running) {ctrl : Reg} (hctrl : ctrl.toNat < 8)
    (samplerate : Reg) : Inv { s with ctrl := ctrl, samplerate := samplerate } where
  control := { hs.control with
    ctrl_reserved := hctrl
    period_frozen := fun h => absurd h hrun }
  pulse := { hs.pulse with
    fresh := fun h => { hs.pulse.fresh h with }
    started_level := fun h => absurd h hrun
    bounded_level := fun h => absurd h hrun }
  buffer := { hs.buffer with empty := fun h => { hs.buffer.empty h with } }
  events_legal := hs.events_legal

theorem inv_writeReg {s : State} (hs : Inv s) (hrun : s.run ≠ .running) (a : BitVec 4) (d : Reg) :
    Inv (writeReg a d s) := by
  rcases writeReg_cases a d s with ⟨-, hw⟩ | ⟨-, hw⟩ | ⟨-, -, hw⟩
  · have hctrl : ((d.extractLsb' 0 3).setWidth 32).toNat < 8 := by
      rw [BitVec.toNat_setWidth_of_le (by decide)]
      exact (d.extractLsb' 0 3).isLt
    rw [hw]
    exact inv_configured hs hrun hctrl s.samplerate
  · rw [hw]
    exact inv_configured hs hrun hs.control.ctrl_reserved d
  · rwa [hw]

/-- A START that fails: what it leaves in PERIOD, TIMEOUT, fault and run, over a cleared datapath. -/
theorem inv_raiseFault {s : State} (hs : Inv s) {code : BitVec 4} (hcode : code = 1#4 ∨ code = 2#4) :
    Inv (s.clearDatapath.raiseFault code) where
  control :=
    { ctrl_reserved := hs.control.ctrl_reserved
      fault_code := show code.toNat ≤ 2 by rcases hcode with rfl | rfl <;> decide
      fault_iff := by rcases hcode with rfl | rfl <;> simp
      timeout_eq := rfl
      period_frozen := by simp
      period_live := by simp
      period_dead := fun _ => rfl
      no_sample := fun _ => rfl }
  pulse := pulseInv_of_clear rfl ⟨rfl, rfl, rfl, rfl, rfl, rfl⟩
  buffer := bufferInv_of_clear ⟨rfl, rfl, rfl, rfl, rfl⟩
  events_legal := hs.events_legal

/-- A START that passes: PERIOD is the configuration's N, which is not 0. -/
theorem inv_enterRunning {s : State} (hs : Inv s) (hn : nominalPeriod s.samplerate (rate s) ≠ 0) :
    Inv (s.clearDatapath.enterRunning (nominalPeriod s.samplerate (rate s))) := by
  obtain ⟨hperiod, htimeout⟩ := enterRunning_nominalPeriod_toNat s.samplerate (rate s) s.clearDatapath
  have hle := nominalPeriod_le s.samplerate (rate s)
  exact
    { control :=
        { ctrl_reserved := hs.control.ctrl_reserved
          fault_code := by simp
          fault_iff := by simp
          timeout_eq := by rw [hperiod, htimeout]
          period_frozen := fun _ => hperiod
          period_live := fun _ => by omega
          period_dead := by simp
          no_sample := by simp }
      pulse := pulseInv_of_clear rfl ⟨rfl, rfl, rfl, rfl, rfl, rfl⟩
      buffer := bufferInv_of_clear ⟨rfl, rfl, rfl, rfl, rfl⟩
      events_legal := hs.events_legal }

/-- END: what the invariant says of RUNNING alone falls away. -/
theorem inv_exhausted {s : State} (hs : Inv s) (hrun : s.run = .running) : Inv { s with run := .exhausted } where
  control := { hs.control with
    fault_iff := by simpa [hrun] using hs.control.fault_iff
    period_frozen := by simp
    period_live := fun _ => hs.control.period_live (.inl hrun)
    period_dead := by simp
    no_sample := by simp }
  pulse := { hs.pulse with
    fresh := fun h => { hs.pulse.fresh h with }
    started_level := by simp
    bounded_level := by simp }
  buffer := { hs.buffer with empty := fun h => { hs.buffer.empty h with } }
  events_legal := hs.events_legal

/-! ### SAMPLE: the control registers and the pulse -/

/-- R68: the reference sample is taken in Idle, where the pulse's invariant asks nothing of its level. -/
theorem inv_reference {s : State} (hs : Inv s) (hrun : s.run = .running) (hvalid : s.prevValid = false)
    (level : Bool) : Inv (s.reference level) where
  control := { hs.control with no_sample := by simp [hrun] }
  pulse :=
    have htimeout := three_le_timeout hs hrun
    pulseInv_of_idle (by simp) (fun _ => show 0 < s.timeout.toNat by omega) (Nat.zero_le _) (hs.pulse.fresh hvalid).bx
  buffer := { hs.buffer with empty := fun h => { hs.buffer.empty h with } }
  events_legal := hs.events_legal

section
variable {level : Bool} {s t : State}

/-- A sample after the reference sample: the count is the EdgeWaiter's, and what remains to show is the order of the
pulse candidate and the level at which it stands. -/
theorem pulseInv_of_wait (hs : Inv s) (hrun : s.run = .running) (hvalid : s.prevValid = true)
    (hidx : s.idx ≠ BitVec.allOnes 64) (k : KeepsFrontEnd (afterWait level s) t) (hlegal : t.bx ≠ 3#2)
    (hstarted : t.bx = 1#2 → t.pcStart.toNat ≤ s.idx.toNat + 1 ∧ level = activeLevel s)
    (hbounded : t.bx = 2#2 → t.pcStart.toNat < t.pcEnd.toNat ∧
      s.idx.toNat + 1 = t.pcEnd.toNat + (afterWait level s).idle.toNat ∧ level = !activeLevel s) : PulseInv t := by
  obtain ⟨hlt, hle⟩ := afterWait_idle (level := level) hs hrun hvalid
  have hindex : t.idx.toNat = s.idx.toNat + 1 := by
    rw [k.idx]
    exact toNat_add_one_of_ne_allOnes hidx
  have hactive : activeLevel t = activeLevel s := congrArg (fun c : Reg => !c.getLsbD 0) k.ctrl
  have hprev : t.prev = level := k.prev
  rw [← k.idle] at hlt hle hbounded
  constructor
  case fresh =>
    intro h
    exact absurd (k.prevValid.symm.trans h) (by simp [hvalid])
  case idle_lt =>
    rw [k.timeout]
    exact fun _ => hlt
  case idle_le => omega
  case bx_legal => exact hlegal
  case started => exact fun hbx => hindex ▸ (hstarted hbx).1
  case started_level => exact fun _ hbx => by rw [hprev, hactive, (hstarted hbx).2]
  case bounded => exact fun hbx => (hbounded hbx).1
  case bounded_idle => exact fun hbx => hindex ▸ (hbounded hbx).2.1
  case bounded_level => exact fun _ hbx => by rw [hprev, hactive, (hbounded hbx).2.2]

end

/-! ### SAMPLE: the buffer -/

theorem appendBit_bcnt_toNat (b : DecodedBit) (s : State) : (s.appendBit b).bcnt.toNat = min (s.bcnt.toNat + 1) 31 := by
  have key : ∀ n : BitVec 5, (if n = 31#5 then 31#5 else n + 1#5).toNat = min (n.toNat + 1) 31 := by decide
  exact key s.bcnt

/-- A bit that begins where the buffer ends joins it, and the next pulse candidate begins where the bit ends. -/
theorem bufferInv_appendBit {s : State} (h : BufferInv s) {b : DecodedBit} (hstart : b.start = s.pcStart)
    (hcell : b.start.toNat < b.next.toNat) : BufferInv ((s.appendBit b).beginPulse b.next) where
  idle_empty := fun hbx => absurd hbx (by simp)
  empty := fun hempty => absurd hempty (appendBit_bcnt_ne_zero b s)
  span := by
    intro _
    simp only [State.beginPulse_firstStart, State.beginPulse_lastNext, State.appendBit_firstStart,
      State.appendBit_lastNext]
    split
    · exact hcell
    · next hne =>
      have hspan := h.span hne
      rw [h.contiguous hne, ← hstart] at hspan
      exact hspan.trans hcell
  contiguous := fun _ => rfl
  nibble := by
    intro hcount
    have hcount' : 12 ≤ s.bcnt.toNat := by
      have := appendBit_bcnt_toNat b s
      simp only [State.beginPulse_bcnt] at hcount
      omega
    have hne : s.bcnt ≠ 0#5 := by
      intro hzero
      simp [hzero] at hcount'
    have hspan := h.span hne
    rw [h.contiguous hne, ← hstart] at hspan
    simp only [State.beginPulse_firstStart, State.beginPulse_nibStart, State.beginPulse_lastNext,
      State.appendBit_firstStart, State.appendBit_nibStart, State.appendBit_lastNext, if_neg hne]
    split
    · exact ⟨hspan, hcell⟩
    · next hne12 =>
      have hthirteen : 13 ≤ s.bcnt.toNat := by
        have : s.bcnt.toNat ≠ 12 := fun heq => hne12 (BitVec.eq_of_toNat_eq heq)
        omega
      obtain ⟨hfirst, hlast⟩ := h.nibble hthirteen
      rw [h.contiguous hne, ← hstart] at hlast
      exact ⟨hfirst, hlast.trans hcell⟩
  no_nibble := by
    intro hcount
    have hcount' : s.bcnt.toNat < 12 := by
      have := appendBit_bcnt_toNat b s
      simp only [State.beginPulse_bcnt] at hcount
      omega
    have hne12 : s.bcnt ≠ 12#5 := by
      intro heq
      simp [heq] at hcount'
    rw [State.beginPulse_nibStart, State.appendBit_nibStart, if_neg hne12]
    exact h.no_nibble (by omega)

/-! ### SAMPLE: the events (30 R57, 45 R107) -/

theorem cellEvent_legal {b : DecodedBit} (hcell : b.start.toNat < b.next.toNat) : EventLegal (cellEvent b) := by
  refine ⟨hcell, .inl ⟨rfl, ?_⟩⟩
  cases h : b.value <;> simp [cellEvent, h]

theorem frameReport_legal {first nib last : Index} (hfirst : first.toNat < nib.toNat) (hlast : nib.toNat < last.toNat)
    (bidir : Bool) (f : BitVec 16) : ∀ e ∈ frameReport bidir f first nib last, EventLegal e := by
  have hclassified (p : BitVec 11) : EventLegal ⟨first, nib, if p.toNat < 48 then 1#3 else 2#3, p.setWidth 16⟩ := by
    have hpayload : (p.setWidth 16).toNat = p.toNat := BitVec.toNat_setWidth_of_le (by decide)
    refine ⟨hfirst, ?_⟩
    simp only [hpayload]
    by_cases h : p.toNat < 48
    · exact .inr (.inl ⟨if_pos h, by omega⟩)
    · exact .inr (.inr (.inl ⟨if_neg h, by omega, by have := p.isLt; omega⟩))
  have hchecksum (x n : BitVec 4) : EventLegal ⟨nib, last, 3#3, 0#8 ++ x ++ n⟩ := by
    have hpayload : (0#8 ++ x ++ n).toNat ≤ 255 := by
      rw [← setWidth_append_nibbles, BitVec.toNat_setWidth_of_le (by decide)]
      exact Nat.le_of_lt_succ (x ++ n).isLt
    exact ⟨hlast, .inr (.inr (.inr (.inl ⟨rfl, hpayload⟩)))⟩
  have hmismatch : EventLegal ⟨nib, last, 4#3, 2#16⟩ := ⟨hlast, .inr (.inr (.inr (.inr ⟨rfl, .inr rfl⟩)))⟩
  intro e he
  simp only [frameReport, List.mem_append, List.mem_cons, List.not_mem_nil, or_false] at he
  rcases he with (rfl | rfl) | he
  · exact hclassified _
  · exact hchecksum _ _
  · obtain ⟨-, hmem⟩ := List.mem_ite_nil_left.1 he
    rw [List.mem_singleton.1 hmem]
    exact hmismatch

theorem boundaryEvents_legal {s : State} (h : BufferInv s) : ∀ e ∈ boundaryEvents s, EventLegal e := by
  by_cases hempty : s.bcnt = 0#5
  · simp [boundaryEvents, hempty]
  by_cases hframe : s.bcnt = 16#5
  · obtain ⟨hfirst, hlast⟩ := h.nibble (by simp [hframe])
    rw [boundaryEvents_of_sixteen hframe]
    exact frameReport_legal hfirst hlast _ _
  · rw [boundaryEvents_of_badLength hempty hframe]
    intro e he
    rw [List.mem_singleton.1 he]
    exact ⟨h.span hempty, .inr (.inr (.inr (.inr ⟨rfl, .inl rfl⟩)))⟩

/-! ### SAMPLE -/

theorem inv_sampleStep {level : Bool} {s t : State} (hs : Inv s) (h : SampleStep level s t) : Inv t := by
  cases h with
  | ignored => exact hs
  | reference hrun hvalid => exact inv_reference hs hrun hvalid level
  | hold hrun hvalid hidx hstarted hbounded =>
    refine
      { control := { hs.control with }
        pulse := pulseInv_of_wait hs hrun hvalid hidx (by constructor <;> rfl) hs.pulse.bx_legal (fun hbx => ?_)
          (fun hbx => ?_)
        buffer := { hs.buffer with empty := fun h => { hs.buffer.empty h with } }
        events_legal := hs.events_legal }
    · exact ⟨Nat.le_succ_of_le (hs.pulse.started hbx), hstarted hbx ▸ hs.pulse.started_level hrun hbx⟩
    · obtain ⟨hprev, hnone, -⟩ := hbounded hbx
      have hidle := hs.pulse.bounded_idle hbx
      have hlt := hs.pulse.idle_lt hvalid
      have := s.timeout.isLt
      refine ⟨hs.pulse.bounded hbx, ?_, hprev ▸ hs.pulse.bounded_level hrun hbx⟩
      rw [State.advance_idle, if_pos hnone, idleSucc_toNat (by omega), State.advance_pcEnd]
      omega
  | begins hrun hvalid hidx hbx hlevel =>
    have hindex := toNat_add_one_of_ne_allOnes hidx
    exact
      { control := { hs.control with }
        pulse := pulseInv_of_wait hs hrun hvalid hidx (by constructor <;> rfl) (by simp)
          (fun _ => ⟨hindex.le, hlevel⟩) (by simp)
        buffer := bufferInv_of_clear { hs.buffer.empty (hs.buffer.idle_empty hbx) with }
        events_legal := hs.events_legal }
  | bounds hrun hvalid hidx hbx hlevel hcond =>
    have hindex := toNat_add_one_of_ne_allOnes hidx
    have hstarted := hs.pulse.started hbx
    have hidle : (afterWait level s).idle = 0#32 := if_neg hcond
    exact
      { control := { hs.control with }
        pulse := pulseInv_of_wait hs hrun hvalid hidx (by constructor <;> rfl) (by simp) (by simp)
          (fun _ => ⟨show s.pcStart.toNat < (s.idx + 1#64).toNat by omega, by rw [hidle]; exact hindex.symm, hlevel⟩)
        buffer := { hs.buffer with
          idle_empty := by simp
          empty := fun h => { hs.buffer.empty h with } }
        events_legal := hs.events_legal }
  | completes hrun hvalid hidx hbx hlevel =>
    have hindex := toNat_add_one_of_ne_allOnes hidx
    have hbounded := hs.pulse.bounded hbx
    have hidle := hs.pulse.bounded_idle hbx
    have hcell : s.pcStart.toNat < (s.idx + 1#64).toNat := by omega
    have hbuffer := bufferInv_appendBit hs.buffer (b := completedBit (s.idx + 1#64) s) rfl hcell
    exact
      { control := { hs.control with }
        pulse := pulseInv_of_wait hs hrun hvalid hidx (by constructor <;> rfl) (by simp)
          (fun _ => ⟨hindex.le, hlevel⟩) (by simp)
        buffer := { hbuffer with empty := fun h => { hbuffer.empty h with } }
        events_legal := List.forall_mem_append.2
          ⟨hs.events_legal, List.forall_mem_singleton.2 (cellEvent_legal hcell)⟩ }
  | finishes hrun hvalid hidx hbx hlevel hdue b hb =>
    have hperiod := hs.control.period_live (.inl hrun)
    have hnext := toNat_pcStart_add_period hs hrun hbx hdue
    have hcell : b.start.toNat < b.next.toNat := by
      rw [hb]
      show s.pcStart.toNat < (s.pcStart + s.period.setWidth 64).toNat
      omega
    have hbuffer := bufferInv_appendBit hs.buffer (b := b) (by rw [hb]; rfl) hcell
    have hboundary : ∀ e ∈ boundaryEvents (s.appendBit b), EventLegal e :=
      boundaryEvents_legal (s := (s.appendBit b).beginPulse b.next) hbuffer
    exact
      { control := { hs.control with }
        pulse := pulseInv_of_wait hs hrun hvalid hidx (by constructor <;> rfl) (by simp) (by simp) (by simp)
        buffer := bufferInv_of_clear ⟨rfl, rfl, rfl, rfl, rfl⟩
        events_legal := List.forall_mem_append.2
          ⟨hs.events_legal, List.forall_mem_cons.2 ⟨cellEvent_legal hcell, hboundary⟩⟩ }

/-! ### Every step -/

/-- A host command, whatever it is, keeps the invariant. -/
theorem inv_command {w : CommandWord} {s t : State} (hs : Inv s) (h : exec (decodeHost w) s = .next t) : Inv t := by
  have hcases := commandStep_of_exec h
  generalize decodeHost w = i at hcases
  cases hcases with
  | cfgw a d hrun => exact inv_writeReg hs hrun a d
  | cfgr a => exact hs.withPorts _ s.result s.input
  | startFails _ code hcode => exact inv_raiseFault hs hcode
  | startPasses _ hn => exact inv_enterRunning hs hn
  | sample level t h => exact inv_sampleStep hs (sampleStep_of_exec hs h)
  | ends hrun => exact inv_exhausted hs hrun
  | _ => exact hs

/-- Settles O56: a step is nothing, the reset, or a command, which finds the invariant with the ports undriven. -/
theorem everyStepKeepsTheInvariant : Obligations.EveryStepKeepsTheInvariant := by
  intro s t hs hstep
  rcases step_cases s with ⟨-, hexec⟩ | ⟨rest, -, hexec⟩ | ⟨_, _, -, -, hexec⟩ | ⟨w, rest, -, -, hexec⟩
  · cases hstep.symm.trans hexec
    exact hs.withPorts none none s.input
  · cases hstep.symm.trans hexec
    exact invariantHoldsAtReset.withPorts none none rest
  · cases hstep.symm.trans hexec
  · exact inv_command (hs.withPorts none none rest) (hexec.symm.trans hstep)

/-! ### Completion, and the combinations that no run meets -/

theorem exec_sample_completes {level : Bool} {s : State} (hbx : s.bx ≠ 3#2) (hidx : s.idx ≠ BitVec.allOnes 64) :
    ∃ t, exec (.sample level) s = .next t := by
  by_cases hrun : s.run = .running
  · cases hvalid : s.prevValid with
    | false => exact ⟨_, referenceSampleIsNeverAnEdge.2 level s hrun hvalid⟩
    | true =>
      obtain ⟨t, ht, -⟩ := waitReturn_completes hidx hbx (sampleCond level s) level
      exact ⟨t, (exec_sample_of_prevValid hrun hvalid level).trans ht⟩
  · exact ⟨s, if_neg hrun⟩

theorem exec_command_completes {s : State} (hbx : s.bx ≠ 3#2) (hidx : s.idx ≠ BitVec.allOnes 64) (w : CommandWord) :
    ∃ t, exec (decodeHost w) s = .next t := by
  rcases decodeHost_cases w with ⟨a, d, hw⟩ | ⟨a, hw⟩ | hw | ⟨l, hw⟩ | hw | ⟨a, d, hw⟩ | ⟨o, a, d, hw⟩ | ⟨o, a, d, hw⟩ <;>
    rw [hw]
  case inl =>
    rcases execCfgw_cases a d s with ⟨-, hexec⟩ | ⟨-, hexec⟩ <;> exact ⟨_, hexec⟩
  case inr.inr.inl =>
    rcases execStart_cases s with ⟨-, hexec⟩ | ⟨-, -, hexec⟩ | ⟨-, -, -, hexec⟩ | ⟨-, -, -, hexec⟩ <;>
      exact ⟨_, hexec⟩
  case inr.inr.inr.inl => exact exec_sample_completes hbx hidx
  case inr.inr.inr.inr.inl =>
    by_cases hrun : s.run = .running
    · exact ⟨_, exec_endStream_of_running hrun⟩
    · exact ⟨_, exec_endStream_of_not_running hrun⟩
  all_goals exact ⟨_, rfl⟩

/-- Settles O57: the invariant rules out bx = 11, the one state in which a command faults. -/
theorem everyStepCompletesUnderTheInvariant : Obligations.EveryStepCompletesUnderTheInvariant := by
  intro s hs hidx
  have hbx := hs.pulse.bx_legal
  rcases step_cases s with ⟨-, hexec⟩ | ⟨rest, -, hexec⟩ | ⟨_, _, -, hreserved, -⟩ | ⟨w, rest, -, -, hexec⟩
  · exact ⟨_, hexec⟩
  · exact ⟨_, hexec⟩
  · exact absurd hreserved hbx
  · rw [hexec]
    exact exec_command_completes (s := { s.undriven with input := rest }) hbx hidx w

/-- The selectors of the two rows (30 R51). -/
theorem bx_and_qev_of_decodeBx_ign {b q : BitVec 2} {i : Index} :
    (decodeBx (b ++ q) i = .bxIgnStartedStart → b = 1#2 ∧ q = 1#2) ∧
    (decodeBx (b ++ q) i = .bxIgnBoundedEnd → b = 2#2 ∧ q = 2#2) := by
  have hrow : ∀ b q : BitVec 2,
      (((bxRows.filter (fun r => r.admits (b ++ q).toNat)).map Row.mnemonic).head? = some "BX_IGN_STARTED_START" →
        b = 1#2 ∧ q = 1#2) ∧
      (((bxRows.filter (fun r => r.admits (b ++ q).toNat)).map Row.mnemonic).head? = some "BX_IGN_BOUNDED_END" →
        b = 2#2 ∧ q = 2#2) := by decide
  obtain ⟨hstarted, hbounded⟩ := hrow b q
  have hhead := bxRows_head (b ++ q) i
  exact ⟨fun h => hstarted (hhead.trans (by rw [h]; rfl)), fun h => hbounded (hhead.trans (by rw [h]; rfl))⟩

/-- Settles O39: in Started the line is at the active level and in Bounded away from it, so the edge that leaves that
level is not the one the row asks for. -/
theorem unreachableCombinationsAreNeverSelected : Obligations.UnreachableCombinationsAreNeverSelected := by
  intro level s hs hrun hedge
  dsimp only
  refine ⟨fun h => ?_, fun h => ?_⟩
  · obtain ⟨hbx, hq⟩ := bx_and_qev_of_decodeBx_ign.1 h
    have hlevel : level = activeLevel s := by
      by_contra hne
      simp [hne] at hq
    exact hedge ((hs.pulse.started_level hrun hbx).trans hlevel.symm)
  · obtain ⟨hbx, hq⟩ := bx_and_qev_of_decodeBx_ign.2 h
    have hlevel : level ≠ activeLevel s := by
      intro heq
      simp [heq] at hq
    have hprev := hs.pulse.bounded_level hrun hbx
    exact hedge (hprev.trans (Bool.eq_not.2 hlevel).symm)

end Sys2Proof.Proofs
end

section
/-! The datapath functions on numbers: what `msbFirst` denotes, the fields and the checksums of a frame word, the
Classifier's split, and the duty test. -/

namespace Sys2Proof.Proofs

open Sys2Proof.Machine Sys2Proof.Safety

/-! ### Numbers written MSB-first (00_scope R7) -/

theorem msbFirst_concat (l : List Bool) (b : Bool) : msbFirst (l ++ [b]) = 2 * msbFirst l + b.toNat := by
  simp [msbFirst]

theorem msbFirst_append (k l : List Bool) : msbFirst (k ++ l) = msbFirst k * 2 ^ l.length + msbFirst l := by
  induction l using List.reverseRecOn with
  | nil => simp [msbFirst]
  | append_singleton l b ih =>
    rw [← List.append_assoc, msbFirst_concat, msbFirst_concat, ih, List.length_append, List.length_singleton, pow_succ]
    ring

theorem msbFirst_lt (l : List Bool) : msbFirst l < 2 ^ l.length := by
  induction l using List.reverseRecOn with
  | nil => simp [msbFirst]
  | append_singleton l b ih =>
    have := b.toNat_le
    rw [msbFirst_concat, List.length_append, List.length_singleton, pow_succ]
    omega

theorem msbFirst_take (l : List Bool) (n : Nat) : msbFirst (l.take n) = msbFirst l / 2 ^ (l.length - n) := by
  have hsplit := msbFirst_append (l.take n) (l.drop n)
  have hlt := msbFirst_lt (l.drop n)
  rw [List.take_append_drop, List.length_drop] at hsplit
  rw [List.length_drop] at hlt
  rw [hsplit, Nat.mul_comm, Nat.mul_add_div (Nat.two_pow_pos _), Nat.div_eq_of_lt hlt, Nat.add_zero]

theorem msbFirst_drop (l : List Bool) (n : Nat) : msbFirst (l.drop n) = msbFirst l % 2 ^ (l.length - n) := by
  have hsplit := msbFirst_append (l.take n) (l.drop n)
  have hlt := msbFirst_lt (l.drop n)
  rw [List.take_append_drop, List.length_drop] at hsplit
  rw [List.length_drop] at hlt
  rw [hsplit, Nat.mul_add_mod_of_lt hlt]

/-- Bit `j` of the number is the `j`-th bit from the end. -/
theorem testBit_msbFirst (l : List Bool) (j : Nat) : (msbFirst l).testBit j = (l.reverse[j]?).getD false := by
  induction l using List.reverseRecOn generalizing j with
  | nil => simp [msbFirst]
  | append_singleton l b ih =>
    rw [msbFirst_concat, List.reverse_append]
    cases j with
    | zero => cases b <;> simp [Nat.testBit_zero]
    | succ j =>
      rw [Nat.testBit_succ, show (2 * msbFirst l + b.toNat) / 2 = msbFirst l by have := b.toNat_le; omega, ih]
      simp

/-! ### The fields of a frame word (43 R93) -/

/-- The three wide fields of a frame word as numbers; `crcInput12` spans the payload and the telemetry flag. -/
theorem frameFields_toNat (f : BitVec 16) :
    (frameFields f).payload11.toNat = f.toNat / 32 ∧ (frameFields f).crcNibble.toNat = f.toNat % 16 ∧
    (frameFields f).crcInput12.toNat = f.toNat / 16 := by
  have hf := f.isLt
  simp only [frameFields, BitVec.extractLsb'_toNat, Nat.shiftRight_eq_div_pow]
  omega

theorem frameFields_telemetryFlag (f : BitVec 16) :
    (frameFields f).telemetryFlag = decide (f.toNat / 16 % 2 = 1) := by
  rw [frameFields, BitVec.getLsbD, Nat.testBit_eq_decide_div_mod_eq]

theorem exec_frameFields (f : BitVec 16) (s : State) :
    exec (.frameFields f) s = .next { s with result := some (.fields (frameFields f)) } := rfl

/-- Settles O45: the value returned is `frameFields`, whose fields are known as numbers. -/
theorem frameFieldsAreTheFramesBits : Obligations.FrameFieldsAreTheFramesBits := by
  intro f s
  obtain ⟨hpayload, hnibble, hinput⟩ := frameFields_toNat f
  have hflag := frameFields_telemetryFlag f
  refine ⟨frameFields f, exec_frameFields f s, hpayload, hflag, hnibble, hinput, ?_⟩
  rw [hinput, hpayload, hflag]
  by_cases h : f.toNat / 16 % 2 = 1 <;> simp [h] <;> omega

/-- Settles O46: the selector 0, and a row without effect. -/
theorem flushEmptyReportsNothing : Obligations.FlushEmptyReportsNothing := ⟨rfl, fun _ => rfl⟩

/-! ### The checksum (44 R99 to R104) -/

theorem cksumFold_toNat (v : BitVec 12) :
    (cksumFold v).toNat = (v.toNat ^^^ v.toNat / 16 ^^^ v.toNat / 256) % 16 := by
  simp [cksumFold, Nat.shiftRight_eq_div_pow]

theorem cksumBidir_toNat (v : BitVec 12) : (cksumBidir v).toNat = 15 - (cksumFold v).toNat := by
  rw [cksumBidir_eq_not_fold, BitVec.toNat_not]

theorem expectedNibble_toNat (bidir : Bool) (v : BitVec 12) :
    (expectedNibble bidir v).toNat = sourceChecksum bidir v.toNat := by
  cases bidir
  · exact cksumFold_toNat v
  · exact (cksumBidir_toNat v).trans (by rw [cksumFold_toNat]; rfl)

/-- Settles O50: the four rows return the fold, its complement and the comparison. -/
theorem checksumFunctionsFoldTheNibbles : Obligations.ChecksumFunctionsFoldTheNibbles := fun v _ _ _ =>
  ⟨cksumFold v, cksumBidir v, rfl, rfl, rfl, rfl, cksumFold_toNat v, cksumFold_eq_nibbles v, cksumBidir_toNat v⟩

/-- FOLD is linear in the exclusive or, so an error pattern folds by itself. -/
theorem cksumFold_xor (v w : BitVec 12) : cksumFold (v ^^^ w) = cksumFold v ^^^ cksumFold w := by
  simp only [cksumFold_eq_nibbles, BitVec.extractLsb'_xor]
  ac_rfl

/-- Bit `k` of the 12 folds into bit `k` mod 4. -/
theorem cksumFold_xor_bit (v : BitVec 12) (k : Fin 12) :
    cksumFold (v ^^^ (1#12 <<< k.val)) = cksumFold v ^^^ (1#4 <<< (k.val % 4)) := by
  have hbit : ∀ k : Fin 12, cksumFold (1#12 <<< k.val) = 1#4 <<< (k.val % 4) := by decide
  rw [cksumFold_xor, hbit]

/-- A nibble with one wrong bit is another nibble. -/
theorem xor_bit_ne (x : BitVec 4) {j : Nat} (hj : j < 4) : x ^^^ (1#4 <<< j) ≠ x := by
  have key : ∀ (j : Fin 4) (x : BitVec 4), x ^^^ (1#4 <<< j.val) ≠ x := by decide
  exact key ⟨j, hj⟩ x

/-- Settles O51: the complement differs by 0xF, and the one wrong bit survives the fold and the complement. -/
theorem checksumDetectsEverySingleBitError : Obligations.ChecksumDetectsEverySingleBitError := by
  have hmod (k : Fin 12) : k.val % 4 < 4 := Nat.mod_lt _ (by decide)
  have hfold (v : BitVec 12) (k : Fin 12) : cksumFold (v ^^^ (1#12 <<< k.val)) ≠ cksumFold v := by
    rw [cksumFold_xor_bit]
    exact xor_bit_ne _ (hmod k)
  refine ⟨fun v => ?_, fun v k => ⟨⟨k.val % 4, hmod k⟩, cksumFold_xor_bit v k⟩, fun v k => ⟨?_, ?_⟩,
    fun v k => ⟨?_, ?_⟩⟩
  · have key : ∀ x : BitVec 4, x ^^^ ~~~x = 15#4 := by decide
    rw [cksumBidir_eq_not_fold]
    exact key _
  · exact decide_eq_false (hfold v k)
  · rw [cksumBidir_eq_not_fold, cksumBidir_eq_not_fold]
    exact decide_eq_false (fun h => hfold v k (BitVec.not_inj.1 h))
  · exact decide_eq_false (xor_bit_ne _ k.isLt).symm
  · exact decide_eq_false (xor_bit_ne _ k.isLt).symm

/-! ### CLASSIFY (45 R105) -/

theorem exec_classify (p : BitVec 11) (s : State) :
    exec (.classify p) s = .next { s with result := some (.category (if p.toNat < 48 then 1#3 else 2#3) p) } := by
  show execClassify p s = _
  rw [execClassify, classify_eq]
  rfl

/-- Settles O52: the two sides of `classify`'s one comparison. -/
theorem classifySplitsAtFortyEight : Obligations.ClassifySplitsAtFortyEight := by
  refine fun p s => ⟨fun h => ?_, fun h => ?_⟩
  · rw [exec_classify, if_pos h]
  · rw [exec_classify, if_neg (by omega)]

/-! ### BITVAL (42 R77) -/

/-- With the denominator positive the rational test is the comparison of integers. -/
theorem duty_gt_half_iff {duty period : Nat} (h : 0 < period) : (duty : ℚ) / period > 1 / 2 ↔ 2 * duty > period := by
  have hperiod : (0 : ℚ) < period := Nat.cast_pos.2 h
  rw [gt_iff_lt, div_lt_div_iff₀ two_pos hperiod, one_mul, mul_comm, gt_iff_lt]
  exact_mod_cast Iff.rfl

/-- Settles O40: where `stop` and `next` lie after `start`, the differences on integers are those on rationals. -/
theorem bitvalIsTheRationalDutyTest : Obligations.BitvalIsTheRationalDutyTest := by
  refine fun a b c s => ⟨bitval a b c, rfl, fun hb hc => ?_⟩
  rw [bitval_eq hb.le hc.le, decide_eq_true_iff, ← duty_gt_half_iff (by omega), Nat.cast_sub hb.le, Nat.cast_sub hc.le]

end Sys2Proof.Proofs
end

section
/-! The source's unbounded bit buffer (10_state R28): APPEND and the frame boundary refine it, and with them every step
under the invariant. -/

namespace Sys2Proof.Proofs

open Sys2Proof.Machine Sys2Proof.Safety

/-- Settles O59: the buffer registers are clear at reset. -/
theorem resetRepresentsTheEmptyBuffer : Obligations.ResetRepresentsTheEmptyBuffer :=
  BufferClear.represents ⟨rfl, rfl, rfl, rfl, rfl⟩

/-! ### APPEND (43 R91) -/

section
variable {bits : List DecodedBit} {s : State}

/-- Below saturation the count tells the length of the source's buffer. -/
theorem bcnt_eq_iff (h : Represents bits s) {n : Nat} (hn : n < 31) :
    s.bcnt = BitVec.ofNat 5 n ↔ bits.length = n := by
  rw [← BitVec.toNat_inj, h.count, BitVec.toNat_ofNat]
  omega

theorem represents_appendBit (h : Represents bits s) (b : DecodedBit) : Represents (bits ++ [b]) (s.appendBit b) where
  count := by
    rw [appendBit_bcnt_toNat, h.count, List.length_append, List.length_singleton]
    omega
  values := by
    intro j hj
    rw [State.appendBit_shift, List.reverse_append, BitVec.getLsbD_append]
    cases j with
    | zero => simp
    | succ j =>
      have hlow : j < 15 := by omega
      have hvalue := h.values j (by omega)
      simpa [hlow] using hvalue
  first := by
    rw [State.appendBit_firstStart, h.first]
    by_cases hempty : s.bcnt = 0#5
    · have hlength := (bcnt_eq_iff h (by decide)).1 hempty
      simp [hempty, List.length_eq_zero_iff.1 hlength]
    · have hlength := mt (bcnt_eq_iff h (by decide)).2 hempty
      rw [if_neg hempty, List.getElem?_append_left (Nat.pos_of_ne_zero hlength)]
  nibble := by
    rw [State.appendBit_nibStart, h.nibble]
    by_cases htwelve : s.bcnt = 12#5
    · have hlength : bits.length = 12 := (bcnt_eq_iff h (by decide)).1 htwelve
      rw [if_pos htwelve, List.getElem?_append_right hlength.le]
      simp [hlength]
    · have hlength : bits.length ≠ 12 := mt (bcnt_eq_iff h (by decide)).2 htwelve
      rw [if_neg htwelve]
      rcases Nat.lt_or_gt_of_ne hlength with hlt | hgt
      · rw [List.getElem?_eq_none hlt.le, List.getElem?_eq_none (by simp; omega)]
      · rw [List.getElem?_append_left hgt]
  last := by simp

/-- Settles O42: APPEND's writes, register by register. -/
theorem appendRefinesTheUnboundedBuffer : Obligations.AppendRefinesTheUnboundedBuffer :=
  fun _ b s h => ⟨s.appendBit b, exec_append b s, represents_appendBit h b⟩

end

/-- APPENDs complete and extend the buffer by their bits, in order. -/
theorem appendAll_represents (new : List DecodedBit) {bits : List DecodedBit} {s : State} (h : Represents bits s) :
    ∃ t, appendAll new s = .next t ∧ Represents (bits ++ new) t := by
  induction new generalizing bits s with
  | nil => exact ⟨s, rfl, by rwa [List.append_nil]⟩
  | cons b new ih =>
    obtain ⟨t, ht, hrep⟩ := ih (represents_appendBit h b)
    exact ⟨t, ht, by rwa [List.append_assoc] at hrep⟩

/-! ### The frame word (10 R25, 43 R93) -/

/-- Sixteen buffered bits are the frame word MSB-first. -/
theorem shift_toNat {bits : List DecodedBit} {s : State} (h : Represents bits s) (hlength : bits.length = 16) :
    s.shift.toNat = msbFirst (bits.map DecodedBit.value) := by
  apply Nat.eq_of_testBit_eq
  intro j
  rw [testBit_msbFirst, ← List.map_reverse, List.getElem?_map]
  by_cases hj : j < 16
  · exact h.values j hj
  · rw [BitVec.testBit_toNat, BitVec.getLsbD_of_ge _ _ (by omega), List.getElem?_eq_none (by simp; omega)]
    rfl

/-- The frame's bit ranges are FRAME_FIELDS of the shift register. -/
theorem frameFields_shift {bits : List DecodedBit} {s : State} (h : Represents bits s) (hlength : bits.length = 16) :
    (frameFields s.shift).payload11.toNat = msbFirst ((bits.map DecodedBit.value).take 11) ∧
    some (frameFields s.shift).telemetryFlag = (bits.map DecodedBit.value)[11]? ∧
    (frameFields s.shift).crcNibble.toNat = msbFirst ((bits.map DecodedBit.value).drop 12) ∧
    (frameFields s.shift).crcInput12.toNat = msbFirst ((bits.map DecodedBit.value).take 12) := by
  obtain ⟨hpayload, hnibble, hinput⟩ := frameFields_toNat s.shift
  have hword := shift_toNat h hlength
  have hvalues : (bits.map DecodedBit.value).length = 16 := by rw [List.length_map, hlength]
  refine ⟨?_, ?_, ?_, ?_⟩
  · rw [hpayload, hword, msbFirst_take, hvalues]
    rfl
  · have hbit := h.values 4 (by decide)
    rw [← List.getElem?_map, List.map_reverse, List.getElem?_reverse (by omega), hvalues] at hbit
    show some (s.shift.getLsbD 4) = _
    rw [hbit, List.getElem?_eq_getElem (by omega)]
    rfl
  · rw [hnibble, hword, msbFirst_drop, hvalues]
    rfl
  · rw [hinput, hword, msbFirst_take, hvalues]
    rfl

/-- Settles O44: the sixteen APPENDs represent their bits, and then the ranges are those of the shift register. -/
theorem shiftHoldsTheFrameMsbFirst : Obligations.ShiftHoldsTheFrameMsbFirst := by
  refine ⟨fun bits s hclear hlength => ?_, fun bits s h hlength => ⟨shift_toNat h hlength, frameFields_shift h hlength⟩⟩
  obtain ⟨t, ht, h⟩ := appendAll_represents bits hclear.represents
  rw [List.nil_append] at h
  exact ⟨t, frameFields t.shift, ht, exec_frameFields t.shift t, shift_toNat h hlength, frameFields_shift h hlength⟩

/-! ### The frame boundary (43 R92 to R97) -/

theorem checksum_payload (x n : BitVec 4) : 0#8 ++ x ++ n = BitVec.ofNat 16 (16 * x.toNat + n.toNat) := by
  revert x n
  decide

/-- The boundary's events are those that the source's contracts give the buffer. -/
theorem boundaryEvents_eq_sourceBoundary {bits : List DecodedBit} {s : State} (h : Represents bits s) :
    boundaryEvents s = sourceBoundary (bidir s) bits := by
  by_cases hempty : bits.length = 0
  · rw [boundaryEvents, if_pos ((bcnt_eq_iff h (by decide)).2 hempty), sourceBoundary, if_pos hempty]
  have hbcnt : s.bcnt ≠ 0#5 := mt (bcnt_eq_iff h (by decide)).1 hempty
  by_cases hframe : bits.length = 16
  · obtain ⟨hpayload, -, hnibble, hinput⟩ := frameFields_shift h hframe
    have hexpected : sourceChecksum (bidir s) (msbFirst ((bits.map DecodedBit.value).take 12)) =
        (frameExpected s).toNat := by
      rw [← hinput]
      exact (expectedNibble_toNat _ _).symm
    have hclassified : (s.shift.extractLsb' 5 11).setWidth 16 = BitVec.ofNat 16 (s.shift.extractLsb' 5 11).toNat :=
      (BitVec.ofNat_toNat _ _).symm
    rw [boundaryEvents, if_neg hbcnt, if_pos ((bcnt_eq_iff h (by decide)).2 hframe), sourceBoundary, if_neg hempty,
      if_pos hframe, hexpected, ← hpayload, ← hnibble, ← h.first, ← h.nibble, ← h.last, classifierEvent_eq,
      checksumEvent_eq, checksum_payload, cksumCmp, hclassified]
    simp only [decide_eq_true_eq, BitVec.toNat_inj]
    rfl
  · have hsixteen : s.bcnt ≠ 16#5 := mt (bcnt_eq_iff h (by decide)).1 hframe
    rw [boundaryEvents_of_badLength hbcnt hsixteen, sourceBoundary, if_neg hempty, if_neg hframe, h.first, h.last]

/-- Settles O43: the bit is the one that BX_FINAL completes, and the boundary is that of the buffer with it. -/
theorem boundaryRefinesTheUnboundedBuffer : Obligations.BoundaryRefinesTheUnboundedBuffer := by
  rintro bits ⟨start, stop, next, value⟩ s h rfl rfl hpulse hnext hvalue
  dsimp only at hpulse hnext hvalue ⊢
  have hcell : next.toNat - s.pcStart.toNat = s.period.toNat := by omega
  have hbit : decodedBit (synthesizedNext s.pcStart s.period) s = ⟨s.pcStart, s.pcEnd, next, value⟩ := by
    rw [synthesizedNext_eq hnext, decodedBit_eq_completedBit hpulse.le (by omega), completedBit, hcell, ← hvalue]
  refine ⟨_, exec_bxFinal hbit, (bufferClear_clearBuffer _).represents, rfl, ?_⟩
  rw [State.clearBuffer_events, boundaryEvents_eq_sourceBoundary (represents_appendBit h _)]
  rfl

/-! ### The source's step, command by command -/

/-- What the source's buffer and the event stream become in a SAMPLE at `level`. -/
def sourceSample (level : Bool) (bits : List DecodedBit) (s : State) : List DecodedBit × List Event :=
  if level = activeLevel s ∧ s.run = .running ∧ s.bx = 2#2 then
    (bits ++ [completedBit (s.idx + 1#64) s], s.events ++ [cellEvent (completedBit (s.idx + 1#64) s)])
  else if level = (!activeLevel s) ∧ s.run = .running ∧ s.bx = 2#2 ∧ s.idle.toNat + 1 = s.timeout.toNat then
    ([], s.events ++ cellEvent (completedBit (s.pcStart + s.period.setWidth 64) s) ::
      sourceBoundary (bidir s) (bits ++ [completedBit (s.pcStart + s.period.setWidth 64) s]))
  else (bits, s.events)

/-- What they become in a command. -/
def sourceCommand (i : Instr) (bits : List DecodedBit) (s : State) : List DecodedBit × List Event :=
  match i with
  | .start => if s.run = .running then (bits, s.events) else ([], s.events)
  | .sample level => sourceSample level bits s
  | _ => (bits, s.events)

theorem sourceStep_of_command {bits : List DecodedBit} {s : State} {w : CommandWord} {rest : List HostInput}
    (hin : s.input = .command w :: rest) : sourceStep bits s = sourceCommand (decodeHost w) bits s := by
  simp only [sourceStep, hin, sourceCommand]
  generalize decodeHost w = i
  cases i
  case start => by_cases hrun : s.run = .running <;> simp [hrun]
  case sample level => simp [sourceSample, bidir]
  all_goals simp

/-! ### Every step -/

theorem represents_sampleStep {level : Bool} {bits : List DecodedBit} {s t : State} (hs : Inv s)
    (hr : Represents bits s) (h : SampleStep level s t) :
    Represents (sourceSample level bits s).1 t ∧ t.events = (sourceSample level bits s).2 := by
  have hother (hbx : s.bx ≠ 2#2) : sourceSample level bits s = (bits, s.events) := by simp [sourceSample, hbx]
  cases h with
  | ignored hrun =>
    have hsource : sourceSample level bits s = (bits, s.events) := by simp [sourceSample, hrun]
    rw [hsource]
    exact ⟨hr, rfl⟩
  | reference hrun hvalid =>
    have hbx : s.bx = 0#2 := (hs.pulse.fresh hvalid).bx
    rw [hother (by simp [hbx])]
    exact ⟨hr.congr rfl rfl rfl rfl rfl, rfl⟩
  | hold hrun hvalid hidx hstarted hbounded =>
    have hsource : sourceSample level bits s = (bits, s.events) := by
      by_cases hbx : s.bx = 2#2
      · obtain ⟨hprev, -, hdue⟩ := hbounded hbx
        have hlevel := hs.pulse.bounded_level hrun hbx
        simp [sourceSample, ← hprev, hlevel, hdue]
      · exact hother hbx
    rw [hsource]
    exact ⟨hr.congr rfl rfl rfl rfl rfl, rfl⟩
  | begins _ _ _ hbx =>
    rw [hother (by simp [hbx])]
    exact ⟨hr.congr rfl rfl rfl rfl rfl, rfl⟩
  | bounds _ _ _ hbx =>
    rw [hother (by simp [hbx])]
    exact ⟨hr.congr rfl rfl rfl rfl rfl, rfl⟩
  | completes hrun hvalid hidx hbx hlevel =>
    rw [sourceSample, if_pos ⟨hlevel, hrun, hbx⟩]
    exact ⟨(represents_appendBit hr _).congr rfl rfl rfl rfl rfl, rfl⟩
  | finishes hrun hvalid hidx hbx hlevel hdue b hb =>
    have hne : ¬(level = activeLevel s ∧ s.run = .running ∧ s.bx = 2#2) := by simp [hlevel]
    have hboundary := boundaryEvents_eq_sourceBoundary (represents_appendBit hr b)
    rw [sourceSample, if_neg hne, if_pos ⟨hlevel, hrun, hbx, hdue⟩, ← hb]
    exact ⟨(bufferClear_clearBuffer _).represents, by rw [State.clearBuffer_events, hboundary]; rfl⟩

theorem represents_command {w : CommandWord} {bits : List DecodedBit} {s t : State} (hs : Inv s)
    (hr : Represents bits s) (h : exec (decodeHost w) s = .next t) :
    Represents (sourceCommand (decodeHost w) bits s).1 t ∧ t.events = (sourceCommand (decodeHost w) bits s).2 := by
  have hreserved {i : Instr} (hname : i.mnemonic = "RESERVED") : sourceCommand i bits s = (bits, s.events) := by
    cases i
    case start => simp [Instr.mnemonic] at hname
    case sample => simp [Instr.mnemonic] at hname
    all_goals rfl
  have hcases := commandStep_of_exec h
  generalize decodeHost w = i at hcases ⊢
  cases hcases with
  | cfgwDropped | endIgnored => exact ⟨hr, rfl⟩
  | cfgw a d =>
    rcases writeReg_cases a d s with ⟨-, hw⟩ | ⟨-, hw⟩ | ⟨-, -, hw⟩ <;> rw [hw] <;>
      exact ⟨hr.congr rfl rfl rfl rfl rfl, rfl⟩
  | cfgr | ends => exact ⟨hr.congr rfl rfl rfl rfl rfl, rfl⟩
  | startIgnored hrun =>
    rw [sourceCommand, if_pos hrun]
    exact ⟨hr, rfl⟩
  | startFails hrun | startPasses hrun =>
    rw [sourceCommand, if_neg hrun]
    exact ⟨BufferClear.represents ⟨rfl, rfl, rfl, rfl, rfl⟩, rfl⟩
  | sample level t h => exact represents_sampleStep hs hr (sampleStep_of_exec hs h)
  | reserved i hname =>
    rw [hreserved hname]
    exact ⟨hr, rfl⟩

/-- Settles O58: a step is nothing, the reset, or a command, each of which the source's step follows. -/
theorem everyStepKeepsTheBufferRepresented : Obligations.EveryStepKeepsTheBufferRepresented := by
  intro bits s t hs hr hstep
  rcases step_cases s with ⟨hin, hexec⟩ | ⟨rest, hin, hexec⟩ | ⟨_, _, -, -, hexec⟩ | ⟨w, rest, hin, -, hexec⟩
  · cases hstep.symm.trans hexec
    simp only [sourceStep, hin]
    exact ⟨hr.congr rfl rfl rfl rfl rfl, rfl⟩
  · cases hstep.symm.trans hexec
    simp only [sourceStep, hin]
    exact ⟨BufferClear.represents ⟨rfl, rfl, rfl, rfl, rfl⟩, rfl⟩
  · cases hstep.symm.trans hexec
  · rw [sourceStep_of_command hin]
    exact represents_command (s := { s.undriven with input := rest }) (hs.withPorts none none rest)
      (hr.congr rfl rfl rfl rfl rfl) (hexec.symm.trans hstep)

end Sys2Proof.Proofs
end

section
/-! The event stream (10_state R29, 60 R116): what a SAMPLE appends, and that no other command appends. -/

namespace Sys2Proof.Proofs

open Sys2Proof.Machine Sys2Proof.Safety

/-- The sequences of R116's table: none; a bit; a bit and a frame, with or without a mismatch; a bit and an invalid
length. -/
def ListedSequence (new : List Event) : Prop :=
  new = [] ∨ (∃ b, new = [b] ∧ b.cat = 0#3) ∨
  (∃ b c k, new = [b, c, k] ∧ b.cat = 0#3 ∧ (c.cat = 1#3 ∨ c.cat = 2#3) ∧ k.cat = 3#3) ∨
  (∃ b c k e, new = [b, c, k, e] ∧ b.cat = 0#3 ∧ (c.cat = 1#3 ∨ c.cat = 2#3) ∧ k.cat = 3#3 ∧
    e.cat = 4#3 ∧ e.payload = 2#16) ∨
  (∃ b e, new = [b, e] ∧ b.cat = 0#3 ∧ e.cat = 4#3 ∧ e.payload = 1#16)

theorem ListedSequence.length_le {new : List Event} (h : ListedSequence new) : new.length ≤ 4 := by
  rcases h with rfl | ⟨_, rfl, -⟩ | ⟨_, _, _, rfl, -⟩ | ⟨_, _, _, _, rfl, -⟩ | ⟨_, _, rfl, -⟩ <;> simp

/-- A frame's report is a classification and a checksum, and after them a mismatch or nothing. -/
theorem frameReport_shape (bidir : Bool) (f : BitVec 16) (first nib last : Index) :
    ∃ c k, (c.cat = 1#3 ∨ c.cat = 2#3) ∧ k.cat = 3#3 ∧
      (frameReport bidir f first nib last = [c, k] ∨
        ∃ e, frameReport bidir f first nib last = [c, k, e] ∧ e.cat = 4#3 ∧ e.payload = 2#16) :=
  ⟨_, _, ite_eq_or_eq _ _ _, rfl,
    (ite_eq_or_eq _ _ _).imp (congrArg ([_, _] ++ ·)) fun h => ⟨_, congrArg ([_, _] ++ ·) h, rfl, rfl⟩⟩

/-- A bit and the boundary that its APPEND meets: a frame's report at the sixteenth bit, else an invalid length. -/
theorem listedSequence_final (b : DecodedBit) (s : State) :
    ListedSequence (cellEvent b :: boundaryEvents (s.appendBit b)) := by
  rw [boundaryEvents_appendBit]
  split
  · obtain ⟨c, k, hc, hk, hreport | ⟨e, hreport, hcat, hpayload⟩⟩ :=
      frameReport_shape (bidir s) (s.shift.extractLsb' 0 15 ++ BitVec.ofBool b.value) s.firstStart s.nibStart b.next
    · exact .inr (.inr (.inl ⟨_, c, k, by rw [hreport], rfl, hc, hk⟩))
    · exact .inr (.inr (.inr (.inl ⟨_, c, k, e, by rw [hreport], rfl, hc, hk, hcat, hpayload⟩)))
  · exact .inr (.inr (.inr (.inr ⟨_, _, rfl, rfl, rfl, rfl⟩)))

/-- A BitExtractor step appends nothing, a bit, or a bit and its boundary; outside Bounded nothing. -/
theorem bxStep_events {q : BitVec 2} {i : Index} {s t : State} (h : bxStep q i s = .next t) :
    ∃ new, t.events = s.events ++ new ∧ (s.bx ≠ 2#2 → new = []) ∧ ListedSequence new := by
  have hnone (u : State) (hu : u.events = s.events) :
      ∃ new, u.events = s.events ++ new ∧ (s.bx ≠ 2#2 → new = []) ∧ ListedSequence new :=
    ⟨[], by rw [hu, List.append_nil], fun _ => rfl, .inl rfl⟩
  obtain ⟨-, ⟨rfl, -⟩ | ⟨-, -, rfl⟩ | ⟨-, -, rfl⟩ | ⟨hbx, -, rfl⟩ | ⟨hbx, -, ht⟩⟩ := bxStep_cases h
  · exact hnone t rfl
  · exact hnone _ rfl
  · exact hnone _ rfl
  · exact ⟨[_], rfl, fun hne => absurd hbx hne, .inr (.inl ⟨_, rfl, rfl⟩)⟩
  · have hfinal : exec .bxFinal s = .next t := congrArg Host.Outcome.next ht.symm
    cases hfinal.symm.trans (exec_bxFinal rfl)
    exact ⟨_, rfl, fun hne => absurd hbx hne, listedSequence_final _ s⟩

theorem exec_sample_events {level : Bool} {s t : State} (h : exec (.sample level) s = .next t) :
    ∃ new, t.events = s.events ++ new ∧ (s.bx ≠ 2#2 → new = []) ∧ ListedSequence new := by
  rcases execSample_cases h with ⟨-, rfl⟩ | ⟨-, -, rfl⟩ | ⟨-, -, -, hstep⟩
  · exact ⟨[], (List.append_nil _).symm, fun _ => rfl, .inl rfl⟩
  · exact ⟨[], (List.append_nil _).symm, fun _ => rfl, .inl rfl⟩
  · have hnew := bxStep_events hstep
    rwa [State.advance_events, State.advance_bx] at hnew

/-- Settles O53: the sequence is the BitExtractor step's. -/
theorem sampleEmitsOneOfTheListedSequences : Obligations.SampleEmitsOneOfTheListedSequences := by
  intro level s t h
  obtain ⟨new, hevents, hnone, hlisted⟩ := exec_sample_events h
  exact ⟨new, hevents, hlisted.length_le, hnone, hlisted⟩

theorem writeReg_events (a : BitVec 4) (d : Reg) (s : State) : (writeReg a d s).events = s.events := by
  rcases writeReg_cases a d s with ⟨-, hw⟩ | ⟨-, hw⟩ | ⟨-, -, hw⟩ <;> rw [hw]

/-- Settles O54: of a command's cases only SAMPLE's reaches the stream. -/
theorem eventStreamIsAppendOnly : Obligations.EventStreamIsAppendOnly := by
  intro w s t h
  have hcases := commandStep_of_exec h
  generalize decodeHost w = i at hcases ⊢
  cases hcases with
  | sample level t h =>
    obtain ⟨new, hevents, -⟩ := exec_sample_events h
    exact ⟨⟨new, hevents.symm⟩, fun hne => absurd rfl (hne level)⟩
  | cfgw a d =>
    rw [writeReg_events]
    exact ⟨List.prefix_rfl, fun _ => rfl⟩
  | _ => exact ⟨List.prefix_rfl, fun _ => rfl⟩

end Sys2Proof.Proofs
end
